-- ==== Sys2Proof/Word.lean ====
section
/-! DEFINITION. The three widths of the machine: the word, the address, the select code. -/

namespace Sys2Proof

/-- A 16-bit word: an instruction, a register A or B, a memory word, a device buffer (R5). -/
abbrev Word := BitVec 16

/-- A 15-bit word address, and the width of P (R6, R23). -/
abbrev Addr := BitVec 15

/-- A 6-bit select code of an input/output channel (R50). -/
abbrev SelectCode := BitVec 6

end Sys2Proof
end

