-- ==== Sys2Proof/Config.lean ====
section
/-! DEFINITION. The parameters of R8 that fix one machine. A state holds one value of this type and no step changes
it, so a statement about every state holds for every value of every parameter. DEVICES and OPTIONS are in the state
too: an interface or a board is installed where the state has a record for it. -/

namespace Sys2Proof

/-- `MODEL` (R1, R8, D30): the members of the series the spec names. -/
inductive Model where
  | hp2114
  | hp2115
  | hp2116
  | hp2100A
  deriving DecidableEq, Repr

/-- `SFX_CLEAR_FORM` (R8, R93, D13): what SFC and SFS with bit 9 = 1 do on a select code other than 01. -/
inductive SfxClearForm where
  | refuse
  | testThenClear
  deriving DecidableEq, Repr

/-- The parameters of R8. The default of each field is the value the spec gives, or, where it is OPEN, the one that
log entry 9 names (DESIGN CHOICE). -/
structure Config where
  /-- `MODEL`: OPEN. -/
  model : Model := .hp2100A
  /-- `HAS_S_REGISTER` on a 2114: OPEN (R8, R30, D28). On the other models the spec fixes it. -/
  sRegisterOn2114 : Bool := false
  /-- `MEM_WORDS`: words installed, 2 to 32768 (R67); 32768 is the spec's default. -/
  memWords : Nat := 32768
  /-- `INDIRECT_MULTILEVEL` (R58, D4): the spec's value is true. -/
  indirectMultilevel : Bool := true
  /-- `SFX_CLEAR_FORM` (R93, D13): the spec's value is refuse. -/
  sfxClearForm : SfxClearForm := .refuse
  deriving DecidableEq, Repr

/-- `ENTRY`, the value of P when a run starts: OPEN (R8, R37). 02000 is the entry of every program of the spec's
section on test programs (log entry 3, DESIGN CHOICE). -/
def Config.entry : Addr := 0o2000

end Sys2Proof
end

