-- ==== Sys2Proof/Syntax.lean ====
section
/-! DEFINITION. The instructions: one constructor per row of the opcode table, and two for the words that select
nothing and are not NOP. A shift-rotate or alter-skip word combines micro-instructions (R94, R95, R99); it is the
constructor of the first of them in execution order, whose arguments are the rest of the word (log entry 26). -/

namespace Sys2Proof

/-- The register bit `r`: A or B (R12, R20). -/
inductive Reg where
  | A
  | B
  deriving DecidableEq, Repr

/-- The eight shift codes of R85, with the spec's names for the A-or-B form (R12): rLS, rRS, RrL, RrR, rLR, ERr, ELr,
rLF. -/
inductive ShiftCode where
  | ls
  | rs
  | rl
  | rr
  | lr
  | er
  | el
  | lf
  deriving DecidableEq, Repr

/-- A shift position of a shift-rotate word: its enable bit and its code (R84). -/
structure Slot where
  en : Bool
  code : ShiftCode
  deriving DecidableEq, Repr

/-- The two-bit fields `rop` and `eop` of an alter-skip word (R86): nothing, clear, complement, clear and
complement. -/
inductive AlterOp where
  | none
  | clear
  | complement
  | clearComplement
  deriving DecidableEq, Repr

/-- The operand of a memory reference word (R82): `i` (indirect), `p` (current page) and `m`. -/
structure MemRef where
  ind : Bool
  cur : Bool
  m : BitVec 10
  deriving DecidableEq, Repr

/-- A whole shift-rotate word by its fields (R84). -/
structure SrgWord where
  r : Reg
  s1 : Slot
  cle : Bool
  sl : Bool
  s2 : Slot
  deriving DecidableEq, Repr

/-- A whole alter-skip word by its fields (R86), in the execution order of R95. -/
structure AsgWord where
  r : Reg
  rop : AlterOp
  sez : Bool
  eop : AlterOp
  ss : Bool
  sl : Bool
  inc : Bool
  sz : Bool
  rss : Bool
  deriving DecidableEq, Repr

/-- The instructions. `s2` is the second shift position; `c1` is the code of a first position whose enable bit is 0;
`f` is the hold/clear bit (R12, R87); `sc` the select code. -/
inductive Instr where
  /-- NOP, the zero word (R112). -/
  | nop
  /-- the shift-rotate words other than 000000 that select nothing (R91). -/
  | noEffectSrg (r : Reg) (c1 c2 : ShiftCode)
  /-- CLE of the shift-rotate group, first in its word (R113). -/
  | cleSrg (r : Reg) (c1 : ShiftCode) (sl : Bool) (s2 : Slot)
  /-- SLA of the shift-rotate group, first in its word (R114). -/
  | slaSrg (c1 : ShiftCode) (s2 : Slot)
  /-- SLB of the shift-rotate group, first in its word (R114). -/
  | slbSrg (c1 : ShiftCode) (s2 : Slot)
  /-- ALS in the first position, with the rest of its word (R115). -/
  | als1 (cle sl : Bool) (s2 : Slot)
  /-- ALS in the second position, alone in its word (R115). -/
  | als2 (c1 : ShiftCode)
  /-- BLS in the first position, with the rest of its word (R115). -/
  | bls1 (cle sl : Bool) (s2 : Slot)
  /-- BLS in the second position, alone in its word (R115). -/
  | bls2 (c1 : ShiftCode)
  /-- ARS in the first position, with the rest of its word (R116). -/
  | ars1 (cle sl : Bool) (s2 : Slot)
  /-- ARS in the second position, alone in its word (R116). -/
  | ars2 (c1 : ShiftCode)
  /-- BRS in the first position, with the rest of its word (R116). -/
  | brs1 (cle sl : Bool) (s2 : Slot)
  /-- BRS in the second position, alone in its word (R116). -/
  | brs2 (c1 : ShiftCode)
  /-- RAL in the first position, with the rest of its word (R117). -/
  | ral1 (cle sl : Bool) (s2 : Slot)
  /-- RAL in the second position, alone in its word (R117). -/
  | ral2 (c1 : ShiftCode)
  /-- RBL in the first position, with the rest of its word (R117). -/
  | rbl1 (cle sl : Bool) (s2 : Slot)
  /-- RBL in the second position, alone in its word (R117). -/
  | rbl2 (c1 : ShiftCode)
  /-- RAR in the first position, with the rest of its word (R118). -/
  | rar1 (cle sl : Bool) (s2 : Slot)
  /-- RAR in the second position, alone in its word (R118). -/
  | rar2 (c1 : ShiftCode)
  /-- RBR in the first position, with the rest of its word (R118). -/
  | rbr1 (cle sl : Bool) (s2 : Slot)
  /-- RBR in the second position, alone in its word (R118). -/
  | rbr2 (c1 : ShiftCode)
  /-- ALR in the first position, with the rest of its word (R119). -/
  | alr1 (cle sl : Bool) (s2 : Slot)
  /-- ALR in the second position, alone in its word (R119). -/
  | alr2 (c1 : ShiftCode)
  /-- BLR in the first position, with the rest of its word (R119). -/
  | blr1 (cle sl : Bool) (s2 : Slot)
  /-- BLR in the second position, alone in its word (R119). -/
  | blr2 (c1 : ShiftCode)
  /-- ERA in the first position, with the rest of its word (R120). -/
  | era1 (cle sl : Bool) (s2 : Slot)
  /-- ERA in the second position, alone in its word (R120). -/
  | era2 (c1 : ShiftCode)
  /-- ERB in the first position, with the rest of its word (R120). -/
  | erb1 (cle sl : Bool) (s2 : Slot)
  /-- ERB in the second position, alone in its word (R120). -/
  | erb2 (c1 : ShiftCode)
  /-- ELA in the first position, with the rest of its word (R121). -/
  | ela1 (cle sl : Bool) (s2 : Slot)
  /-- ELA in the second position, alone in its word (R121). -/
  | ela2 (c1 : ShiftCode)
  /-- ELB in the first position, with the rest of its word (R121). -/
  | elb1 (cle sl : Bool) (s2 : Slot)
  /-- ELB in the second position, alone in its word (R121). -/
  | elb2 (c1 : ShiftCode)
  /-- ALF in the first position, with the rest of its word (R122). -/
  | alf1 (cle sl : Bool) (s2 : Slot)
  /-- ALF in the second position, alone in its word (R122). -/
  | alf2 (c1 : ShiftCode)
  /-- BLF in the first position, with the rest of its word (R122). -/
  | blf1 (cle sl : Bool) (s2 : Slot)
  /-- BLF in the second position, alone in its word (R122). -/
  | blf2 (c1 : ShiftCode)
  /-- ERA coded in the first position with its enable bit 0 (R123). -/
  | eraDisabled1 (cle sl : Bool) (s2 : Slot)
  /-- ERA coded in the second position with its enable bit 0, alone in its word (R123). -/
  | eraDisabled2 (c1 : ShiftCode)
  /-- ERB coded in the first position with its enable bit 0 (R123). -/
  | erbDisabled1 (cle sl : Bool) (s2 : Slot)
  /-- ERB coded in the second position with its enable bit 0, alone in its word (R123). -/
  | erbDisabled2 (c1 : ShiftCode)
  /-- ELA coded in the first position with its enable bit 0 (R123). -/
  | elaDisabled1 (cle sl : Bool) (s2 : Slot)
  /-- ELA coded in the second position with its enable bit 0, alone in its word (R123). -/
  | elaDisabled2 (c1 : ShiftCode)
  /-- ELB coded in the first position with its enable bit 0 (R123). -/
  | elbDisabled1 (cle sl : Bool) (s2 : Slot)
  /-- ELB coded in the second position with its enable bit 0, alone in its word (R123). -/
  | elbDisabled2 (c1 : ShiftCode)
  /-- the alter-skip words that select nothing, 002000 and 006000 (R155, R91). -/
  | noEffectAsg (r : Reg)
  /-- CLA with the rest of its word (R143). -/
  | cla (sez : Bool) (eop : AlterOp) (ss sl inc sz rss : Bool)
  /-- CLB with the rest of its word (R143). -/
  | clb (sez : Bool) (eop : AlterOp) (ss sl inc sz rss : Bool)
  /-- CMA with the rest of its word (R144). -/
  | cma (sez : Bool) (eop : AlterOp) (ss sl inc sz rss : Bool)
  /-- CMB with the rest of its word (R144). -/
  | cmb (sez : Bool) (eop : AlterOp) (ss sl inc sz rss : Bool)
  /-- CCA with the rest of its word (R145). -/
  | cca (sez : Bool) (eop : AlterOp) (ss sl inc sz rss : Bool)
  /-- CCB with the rest of its word (R145). -/
  | ccb (sez : Bool) (eop : AlterOp) (ss sl inc sz rss : Bool)
  /-- SEZ, first in its word (R152). -/
  | sez (r : Reg) (eop : AlterOp) (ss sl inc sz rss : Bool)
  /-- CLE of the alter-skip group, first in its word (R146). -/
  | cleAsg (r : Reg) (ss sl inc sz rss : Bool)
  /-- CME, first in its word (R147). -/
  | cme (r : Reg) (ss sl inc sz rss : Bool)
  /-- CCE, first in its word (R148). -/
  | cce (r : Reg) (ss sl inc sz rss : Bool)
  /-- SSA, first in its word (R149). -/
  | ssa (sl inc sz rss : Bool)
  /-- SSB, first in its word (R149). -/
  | ssb (sl inc sz rss : Bool)
  /-- SLA of the alter-skip group, first in its word (R150). -/
  | slaAsg (inc sz rss : Bool)
  /-- SLB of the alter-skip group, first in its word (R150). -/
  | slbAsg (inc sz rss : Bool)
  /-- INA, first in its word (R153). -/
  | ina (sz rss : Bool)
  /-- INB, first in its word (R153). -/
  | inb (sz rss : Bool)
  /-- SZA, first in its word (R151). -/
  | sza (rss : Bool)
  /-- SZB, first in its word (R151). -/
  | szb (rss : Bool)
  /-- RSS with no other alter-skip micro-instruction (R154). -/
  | rss (r : Reg)
  /-- HLT (R172). -/
  | hlt (f : Bool) (sc : SelectCode)
  /-- STF on a select code other than 01 (R173). -/
  | stf (sc : SelectCode)
  /-- CLF on a select code other than 01 (R174). -/
  | clf (sc : SelectCode)
  /-- SFC on a select code other than 01; `f` is bit 9, printed 0 in its row (R175, R93). -/
  | sfc (f : Bool) (sc : SelectCode)
  /-- SFS on a select code other than 01; `f` is bit 9, printed 0 in its row (R176, R93). -/
  | sfs (f : Bool) (sc : SelectCode)
  /-- MIA (R177). -/
  | mia (f : Bool) (sc : SelectCode)
  /-- MIB (R177). -/
  | mib (f : Bool) (sc : SelectCode)
  /-- LIA (R178). -/
  | lia (f : Bool) (sc : SelectCode)
  /-- LIB (R178). -/
  | lib (f : Bool) (sc : SelectCode)
  /-- OTA (R179). -/
  | ota (f : Bool) (sc : SelectCode)
  /-- OTB (R179). -/
  | otb (f : Bool) (sc : SelectCode)
  /-- STC (R180). -/
  | stc (f : Bool) (sc : SelectCode)
  /-- CLC (R181). -/
  | clc (f : Bool) (sc : SelectCode)
  /-- STO, that is STF 01 (R182). -/
  | sto
  /-- CLO, that is CLF 01 (R183). -/
  | clo
  /-- SOS, that is SFS 01 (R184). -/
  | sos (f : Bool)
  /-- SOC, that is SFC 01 (R185). -/
  | soc (f : Bool)
  /-- AND (R215). -/
  | and (x : MemRef)
  /-- JSB (R220). -/
  | jsb (x : MemRef)
  /-- XOR (R216). -/
  | xor (x : MemRef)
  /-- JMP (R219). -/
  | jmp (x : MemRef)
  /-- IOR (R217). -/
  | ior (x : MemRef)
  /-- ISZ (R218). -/
  | isz (x : MemRef)
  /-- ADA (R213). -/
  | ada (x : MemRef)
  /-- ADB (R213). -/
  | adb (x : MemRef)
  /-- CPA (R214). -/
  | cpa (x : MemRef)
  /-- CPB (R214). -/
  | cpb (x : MemRef)
  /-- LDA (R211). -/
  | lda (x : MemRef)
  /-- LDB (R211). -/
  | ldb (x : MemRef)
  /-- STA (R212). -/
  | sta (x : MemRef)
  /-- STB (R212). -/
  | stb (x : MemRef)
  deriving DecidableEq, Repr

end Sys2Proof
end

