-- ==== Sys2Proof/Machine/State.lean ====
section
/-! DEFINITION. The state of the machine as plain data: everything 10_state.md names (R20 to R34), the parameters of
R8, and two fields of the model's own (`fa`, `agenda`). -/

namespace Sys2Proof.Machine

/-- Main memory as byte cells in canonical form (Machine/Memory.lean). The word at address `a` is the two cells `2a`
and `2a+1` (log entry 11). -/
abbrev Memory := List Host.Cell

/-- An installed interface: the per-channel state of R28 and the mark ACK of R32. -/
structure Interface where
  /-- FLAG[sc], the device flag. -/
  flag : Bool := false
  /-- CTL[sc], the device control bit. -/
  ctl : Bool := false
  /-- ACK[sc], the interrupt-acknowledged mark (R32). -/
  ack : Bool := false
  /-- IBUF[sc], the input register. -/
  ibuf : Word := 0
  /-- OBUF[sc], the output register. -/
  obuf : Word := 0
  deriving DecidableEq, Repr

/-- The registers of one DMA channel (R34, R196 to R200). -/
structure DmaChannel where
  /-- The address register: direction in bit 15, starting address in bits 14:0 (R198). -/
  addr : Word := 0
  /-- The length register: 14 bits of a negative count; bits 15 and 14 read as 0 (R199). -/
  length : BitVec 14 := 0
  /-- The select bit, control bit of 02 / 03: address register (false) or length register (true) (R196). -/
  selLength : Bool := false
  /-- The completion flag, flag bit of 02 / 03 (R196). -/
  complete : Bool := false
  /-- The device and options register (R200). -/
  devOpt : Word := 0
  /-- The start bit, control bit of 06 / 07 (R197). -/
  start : Bool := false
  /-- The abort bit, flag bit of 06 / 07 (R197). -/
  abort : Bool := false
  deriving DecidableEq, Repr

/-- The DMA board: channel 1 and channel 2 (R34). -/
structure DmaBoard where
  ch1 : DmaChannel := {}
  ch2 : DmaChannel := {}
  deriving DecidableEq, Repr

/-- The memory protect board's own registers (R34, R201). -/
structure ProtectRegs where
  /-- "protect upper bound", output register of 05. Its width is not given; 16 bits (log entry 10). -/
  upper : Word := 0
  /-- "protection interrupt enable", control bit of 05. -/
  enable : Bool := false
  deriving DecidableEq, Repr

/-- The parity board's own register (R34, R201). -/
structure ParityRegs where
  /-- "parity interrupt enable", flag bit of 05. -/
  enable : Bool := false
  deriving DecidableEq, Repr

/-- Which of the boards behind select code 05 are installed (R8 `OPTIONS`), each with its own registers: those of an
absent board are not in the state (R34). -/
inductive GuardRegs where
  | protect (p : ProtectRegs)
  | parity (q : ParityRegs)
  | both (p : ProtectRegs) (q : ParityRegs)
  deriving DecidableEq, Repr

/-- What is behind select code 05 where at least one of its boards is installed (R34, R171, R201). -/
structure GuardBoard where
  /-- The installed boards. -/
  regs : GuardRegs
  /-- "error type/addr", input register of 05, with either board. Its layout is not given; 16 bits (log entry 10). -/
  error : Word := 0
  deriving DecidableEq, Repr

/-- What an agent outside the processor may do between two steps (R30, R193). -/
inductive AgentAction where
  /-- The device of select code `sc` sets its flag. -/
  | setFlag (sc : SelectCode)
  /-- The device of select code `sc` writes its input register. -/
  | writeIbuf (sc : SelectCode) (v : Word)
  /-- The operator sets the switches or the S-register. -/
  | setSwitches (v : Word)
  deriving DecidableEq, Repr

/-- Why a step does not answer a next state because the machine itself makes no further progress. The source has no
trap (R240): neither is an exception. -/
inductive Fault where
  /-- Raised by `step` with RUN = 0: the processor takes no step (R33, R290). Safe: the run has ended, and nothing is
  said of what an operator does next (log entry 15). -/
  | halted
  /-- Raised by the effective address of a memory reference instruction whose chain of indirect words never ends (R59):
  the instruction never completes. Safe: no state follows it (log entry 16). -/
  | indirectHang
  deriving DecidableEq, Repr

/-- Why the model gives a word no meaning in a state; each is a case the spec itself refuses, but `notModelled`. -/
inductive Refusal where
  /-- An instruction without a meaning in the model, by its mnemonic. No arm of `exec` uses it. Safe. -/
  | notModelled (mnemonic : String)
  /-- Raised by `step`: the word is in no row of the source (R92, D12). Safe (log entry 18). -/
  | unlisted (w : Word)
  /-- Raised by every memory access and fetch: no memory is installed at the address (R55, R67, D2). Safe (log entry
  17). -/
  | memoryNotInstalled (a : Addr)
  /-- Raised by input/output instructions: the select code has no such function (R171, R190, D16, D17). Safe (log entry
  20). -/
  | noChannelFunction (sc : SelectCode)
  /-- Raised by SFC and SFS with bit 9 = 1 while `SFX_CLEAR_FORM` is refuse (R93, D13). Safe (log entry 19). -/
  | clearFormNotListed (sc : SelectCode)
  /-- Raised by STC 06 and STC 07 with the DMA board installed: how a transfer proceeds is not in the source (R200,
  N30). Safe (log entry 21). -/
  | dmaTransfer (sc : SelectCode)
  deriving DecidableEq, Repr

/-- The machine. -/
structure State where
  /-- The A register, also location 00000 (R20, R26). -/
  a : Word
  /-- The B register, also location 00001 (R20, R26). -/
  b : Word
  /-- E, the extend register (R21). -/
  e : Bool
  /-- O, the overflow register, flag bit of channel 01 (R22, R29). -/
  o : Bool
  /-- P, the program counter (R23). -/
  p : Addr
  /-- The address the instruction being executed was fetched from: `fa` of R14. The model's own field (log entry
  12). -/
  fa : Addr
  /-- RUN (R33). -/
  run : Bool
  /-- IEN, the interrupt system enable, flag bit of channel 00 (R27). -/
  ien : Bool
  /-- S, the switch register (R30). -/
  sreg : Word
  /-- CIR, the select code of the most recent interrupt (R31). -/
  cir : SelectCode
  /-- Per select code, the interface installed there, if any (R28, R189; `DEVICES` of R8). -/
  slots : Vector (Option Interface) 64
  /-- The DMA board, if installed (R34; `OPTIONS` of R8). -/
  dma : Option DmaBoard
  /-- The memory protect and parity boards, if one is installed (R34; `OPTIONS` of R8). -/
  guard : Option GuardBoard
  /-- Main memory (R25). -/
  mem : Memory
  /-- The parameters of R8. -/
  cfg : Config
  /-- What the agents do at the coming step boundaries, one list a boundary (R193). The model's own field. The list is
  finite, and after its end no agent acts (log entry 13, DESIGN CHOICE). -/
  agenda : List (List AgentAction)
  deriving DecidableEq, Repr

/-- The interfaces at reset: one at every select code from 10 to 77 (`DEVICES` is OPEN; log entry 8), each with
control bit and acknowledge mark 0 (R37). -/
def State.resetSlots : Vector (Option Interface) 64 :=
  Vector.mk (List.replicate 8 (none : Option Interface) ++ List.replicate 56 (some ({} : Interface))).toArray (by decide)

/-- The state at launch (R37, R281). What the spec leaves unspecified or to a parameter has the value its log entry
names (log entries 1 to 9). -/
def State.reset : State where
  a := 0
  b := 0
  e := false
  o := false
  p := Config.entry
  fa := 0
  run := true
  ien := false
  sreg := 0
  cir := 0
  slots := State.resetSlots
  dma := none
  guard := none
  mem := []
  cfg := {}
  agenda := []

end Sys2Proof.Machine
end

