-- ==== Sys2Proof/Machine/Memory.lean ====
section
/-! DEFINITION. Main memory as a sorted list of byte cells. A word is two cells, the high byte first; no rule of the
spec can see that order (R51, log entry 11). -/

namespace Sys2Proof.Machine

/-- What a cell that nothing has written reads as (R37 leaves it unspecified; log entry 7). -/
def unlistedByte : BitVec 8 := 0

/-- One byte cell. -/
def Memory.byteAt : Memory → Nat → BitVec 8
  | [], _ => unlistedByte
  | (k', v) :: m, k => if k' = k then v else byteAt m k

/-- Write one byte cell, keeping the list sorted and free of cells that read as unlisted ones do. -/
def Memory.setByte : Memory → Nat → BitVec 8 → Memory
  | [], k, v => if v = unlistedByte then [] else [(k, v)]
  | (k', v') :: m, k, v =>
    if k < k' then (if v = unlistedByte then (k', v') :: m else (k, v) :: (k', v') :: m)
    else if k' = k then (if v = unlistedByte then m else (k, v) :: m)
    else (k', v') :: setByte m k v

/-- Every address of the list is above `lo`, the addresses strictly rise, and no cell reads as an unlisted one. -/
def Memory.wfAbove : Nat → Memory → Bool
  | _, [] => true
  | lo, (k, v) :: m => decide (lo ≤ k) && v != unlistedByte && wfAbove (k + 1) m

/-- The canonical form: two memories in it that read alike are equal. -/
def Memory.wf (m : Memory) : Bool := wfAbove 0 m

/-- The word at a word address (R25, R50). -/
def Memory.wordAt (m : Memory) (a : Addr) : Word := m.byteAt (2 * a.toNat) ++ m.byteAt (2 * a.toNat + 1)

/-- Write the word at a word address. -/
def Memory.setWord (m : Memory) (a : Addr) (v : Word) : Memory :=
  (m.setByte (2 * a.toNat) (v.extractLsb' 8 8)).setByte (2 * a.toNat + 1) (v.extractLsb' 0 8)

end Sys2Proof.Machine
end

