-- ==== Sys2Proof/Machine/Ops.lean ====
section
/-! DEFINITION. The named operations over the state: registers, skip, memory accesses, interfaces, and the taking of
an interrupt with the release that ends its service. -/

namespace Sys2Proof.Machine

/-- What an operation answers: a value, a fault or a refusal. -/
abbrev Res (α : Type) := Host.Outcome α Fault Refusal

/-- Go on with the answer of an operation; a fault or a refusal ends the instruction with no state. -/
def andThen {α β : Type} (x : Res α) (f : α → Res β) : Res β :=
  match x with
  | .next v => f v
  | .fault r => .fault r
  | .refused r => .refused r

/-- Change A or B. -/
def State.setReg (s : State) (r : Reg) (v : Word) : State :=
  match r with
  | .A => { s with a := v }
  | .B => { s with b := v }

/-- The register `R(r)` of R13. -/
def State.reg (s : State) : Reg → Word
  | .A => s.a
  | .B => s.b

/-- Change E (R21). -/
def State.setE (s : State) (v : Bool) : State := { s with e := v }

/-- Change O (R22). -/
def State.setO (s : State) (v : Bool) : State := { s with o := v }

/-- Change P (R23). -/
def State.setP (s : State) (v : Addr) : State := { s with p := v }

/-- Change the fetch address (R14). -/
def State.setFa (s : State) (v : Addr) : State := { s with fa := v }

/-- Change RUN (R33). -/
def State.setRun (s : State) (v : Bool) : State := { s with run := v }

/-- Change IEN (R27). -/
def State.setIen (s : State) (v : Bool) : State := { s with ien := v }

/-- Change S (R30). -/
def State.setSreg (s : State) (v : Word) : State := { s with sreg := v }

/-- Change CIR (R31). -/
def State.setCir (s : State) (v : SelectCode) : State := { s with cir := v }

/-- Change main memory. -/
def State.setMem (s : State) (m : Memory) : State := { s with mem := m }

/-- Change the DMA board's registers. -/
def State.setDma (s : State) (d : Option DmaBoard) : State := { s with dma := d }

/-- Change the memory protect and parity registers. -/
def State.setGuard (s : State) (g : Option GuardBoard) : State := { s with guard := g }

/-- Change every interface. -/
def State.setSlots (s : State) (v : Vector (Option Interface) 64) : State := { s with slots := v }

/-- The interface installed at a select code, if any. -/
def State.iface (s : State) (sc : SelectCode) : Option Interface := s.slots[sc.toNat]'sc.isLt

/-- Change the interface at a select code. -/
def State.setIface (s : State) (sc : SelectCode) (d : Interface) : State :=
  { s with slots := s.slots.set sc.toNat (some d) sc.isLt }

/-- A skip: P advances once more, modulo 2^15 (R24). -/
def State.skip (s : State) : State := s.setP (s.p + 1)

/-- A skip on a condition. -/
def State.skipIf (s : State) (c : Bool) : State := if c then s.skip else s

/-- `MemRead` (R55): locations 0 and 1 are A and B (R26); an address at or above MEM_WORDS is refused (R67). -/
def memRead (s : State) (a : Addr) : Res Word :=
  if a = 0 then .next s.a
  else if a = 1 then .next s.b
  else if a.toNat < s.cfg.memWords then .next (s.mem.wordAt a)
  else .refused (.memoryNotInstalled a)

/-- `MemWrite` (R55). -/
def memWrite (s : State) (a : Addr) (v : Word) : Res State :=
  if a = 0 then .next (s.setReg .A v)
  else if a = 1 then .next (s.setReg .B v)
  else if a.toNat < s.cfg.memWords then .next (s.setMem (s.mem.setWord a v))
  else .refused (.memoryNotInstalled a)

/-- FLAG[sc] <- v; clearing it releases the priority level (R171, R250). -/
def Interface.setFlag (d : Interface) (v : Bool) : Interface := { d with flag := v, ack := d.ack && v }

/-- CTL[sc] <- v; clearing it releases the priority level (R171, R250). -/
def Interface.setCtl (d : Interface) (v : Bool) : Interface := { d with ctl := v, ack := d.ack && v }

/-- The interface requests an interrupt (R243). -/
def Interface.requests (d : Interface) : Bool := d.flag && d.ctl

/-- Channel `c` requests an interrupt: an interface is installed there, at 10 or above, and requests (R242, R243). -/
def State.requests (s : State) (c : SelectCode) : Bool :=
  decide (8 ≤ c.toNat) && (match s.iface c with | some d => d.requests | none => false)

/-- The select codes, lowest first: the priority order (R244). -/
def selectCodes : List SelectCode := (List.range 64).map (BitVec.ofNat 6)

/-- The requesting channel that is considered: the lowest (R244, R246). -/
def State.lowestRequest (s : State) : Option SelectCode := selectCodes.find? s.requests

/-- The interrupt to take at this step boundary (R246): the lowest requesting channel, if the interrupt system is
enabled and that channel is not yet acknowledged. -/
def State.pendingInterrupt (s : State) : Option SelectCode :=
  if s.ien then
    match s.lowestRequest with
    | none => none
    | some c =>
      match s.iface c with
      | none => none
      | some d => if d.ack then none else some c
  else none

/-- Taking the interrupt of channel `c` (R247): CIR and ACK[c] are written and the fetch address becomes `c`. Nothing
is saved: P, the registers, IEN, FLAG and CTL stay. The word at location `c` is then executed. -/
def takeInterrupt (c : SelectCode) (s : State) : State :=
  let s1 := (s.setCir c).setFa (c.setWidth 15)
  match s1.iface c with
  | some d => s1.setIface c { d with ack := true }
  | none => s1

/-- Apply a change to every installed interface. -/
def mapInterfaces (f : Interface → Interface) (v : Vector (Option Interface) 64) : Vector (Option Interface) 64 :=
  ⟨(v.toList.map (Option.map f)).toArray, by simp⟩

/-- Clearing CTL of every channel from 06 up, and with it ACK (R171, channel 00): the interfaces, and the start bits
of the DMA board where it is installed. There is no return instruction: this, CLC and CLF are what ends an interrupt's
service (R250). -/
def clearControls (s : State) : State :=
  (s.setSlots (mapInterfaces (fun d => d.setCtl false) s.slots)).setDma
    (s.dma.map (fun b => { b with ch1 := { b.ch1 with start := false }, ch2 := { b.ch2 with start := false } }))

/-- One action of a device agent or of the operator (R193, R30). An agent exists only where an interface is
installed. -/
def agentAct (s : State) : AgentAction → State
  | .setFlag sc =>
    match s.iface sc with
    | some d => s.setIface sc { d with flag := true }
    | none => s
  | .writeIbuf sc v =>
    match s.iface sc with
    | some d => s.setIface sc { d with ibuf := v }
    | none => s
  | .setSwitches v => s.setSreg v

/-- What the agents do at one step boundary: the first list of the agenda, in order. R193 leaves open when and whether
an agent acts. DESIGN CHOICE (log entry 13), unsafe: the agenda is finite, so from the boundary at which it is empty no
agent ever acts, and a statement that something happens in some number of steps must name the agenda it needs. -/
def agentsAct (s : State) : State :=
  match s.agenda with
  | [] => s
  | acts :: rest => { acts.foldl agentAct s with agenda := rest }

end Sys2Proof.Machine
end

