-- ==== Sys2Proof/Machine/Flags.lean ====
section
/-! DEFINITION. The computations of E and O by an addition (R21, R22). Both are set and never cleared (D10). -/

namespace Sys2Proof.Machine

/-- The carry out of bit 15 of `x + y`: bit 16 of the 17-bit sum (R213). -/
def carryOut (x y : Word) : Bool := (x.setWidth 17 + y.setWidth 17).getLsbD 16

/-- Signed overflow of `x + y`: the operands' signs agree and the result's differs (R213). -/
def signedOverflow (x y : Word) : Bool := x.getLsbD 15 == y.getLsbD 15 && (x + y).getLsbD 15 != x.getLsbD 15

/-- Set E on a carry and O on a signed overflow; otherwise leave them (R21, R22, D10). -/
def State.setSticky (s : State) (carry overflow : Bool) : State := (s.setE (s.e || carry)).setO (s.o || overflow)

/-- `R(r) + v` to `R(r)`, with the flags of R213. -/
def addToReg (r : Reg) (v : Word) (s : State) : State :=
  (s.setReg r (s.reg r + v)).setSticky (carryOut (s.reg r) v) (signedOverflow (s.reg r) v)

end Sys2Proof.Machine
end

