-- ==== Sys2Proof/Machine/AlterSkip.lean ====
section
/-! DEFINITION. The Alter-Skip Group (R140 to R156). -/

namespace Sys2Proof.Machine

/-- CLr, CMr, CCr on the register (column 1 of R95): clear, then complement. -/
def alterWord (op : AlterOp) (t : Word) : Word :=
  match op with
  | .none => t
  | .clear => 0
  | .complement => ~~~t
  | .clearComplement => ~~~0

/-- CLE, CME, CCE on E (column 3 of R95): clear, then complement. -/
def alterBit (op : AlterOp) (e : Bool) : Bool :=
  match op with
  | .none => e
  | .clear => false
  | .complement => !e
  | .clearComplement => true

/-- The skip decision (R141, R142). `e` is E before column 3, `t` the register after column 1 (where SSr and SLr test
it), `u` the register after INr (where SZr tests it). -/
def skipDecision (w : AsgWord) (e : Bool) (t u : Word) : Bool :=
  if w.rss then
    if !w.sez && !w.ss && !w.sl && !w.sz then true
    else if w.ss && w.sl then (w.sez && e) || (t.getLsbD 15 && t.getLsbD 0) || (w.sz && u != 0)
    else (w.sez && e) || (w.ss && t.getLsbD 15) || (w.sl && t.getLsbD 0) || (w.sz && u != 0)
  else (w.sez && !e) || (w.ss && !t.getLsbD 15) || (w.sl && !t.getLsbD 0) || (w.sz && u == 0)

/-- The execution of an alter-skip word (R140). -/
def runAlterSkip (w : AsgWord) (s : State) : Res State :=
  let t := alterWord w.rop (s.reg w.r)
  let s1 := (s.setReg w.r t).setE (alterBit w.eop s.e)
  let s2 := if w.inc then addToReg w.r 1 s1 else s1
  .next (s2.skipIf (skipDecision w s.e t (s2.reg w.r)))

/-- the alter-skip words that select nothing, 002000 and 006000 (R155, R91). -/
def execNoEffectAsg (r : Reg) (s : State) : Res State :=
  runAlterSkip ⟨r, .none, false, .none, false, false, false, false, false⟩ s

/-- CLA with the rest of its word (R143). -/
def execCla (sez : Bool) (eop : AlterOp) (ss sl inc sz rss : Bool) (s : State) : Res State :=
  runAlterSkip ⟨.A, .clear, sez, eop, ss, sl, inc, sz, rss⟩ s

/-- CLB with the rest of its word (R143). -/
def execClb (sez : Bool) (eop : AlterOp) (ss sl inc sz rss : Bool) (s : State) : Res State :=
  runAlterSkip ⟨.B, .clear, sez, eop, ss, sl, inc, sz, rss⟩ s

/-- CMA with the rest of its word (R144). -/
def execCma (sez : Bool) (eop : AlterOp) (ss sl inc sz rss : Bool) (s : State) : Res State :=
  runAlterSkip ⟨.A, .complement, sez, eop, ss, sl, inc, sz, rss⟩ s

/-- CMB with the rest of its word (R144). -/
def execCmb (sez : Bool) (eop : AlterOp) (ss sl inc sz rss : Bool) (s : State) : Res State :=
  runAlterSkip ⟨.B, .complement, sez, eop, ss, sl, inc, sz, rss⟩ s

/-- CCA with the rest of its word (R145). -/
def execCca (sez : Bool) (eop : AlterOp) (ss sl inc sz rss : Bool) (s : State) : Res State :=
  runAlterSkip ⟨.A, .clearComplement, sez, eop, ss, sl, inc, sz, rss⟩ s

/-- CCB with the rest of its word (R145). -/
def execCcb (sez : Bool) (eop : AlterOp) (ss sl inc sz rss : Bool) (s : State) : Res State :=
  runAlterSkip ⟨.B, .clearComplement, sez, eop, ss, sl, inc, sz, rss⟩ s

/-- SEZ, first in its word (R152). -/
def execSez (r : Reg) (eop : AlterOp) (ss sl inc sz rss : Bool) (s : State) : Res State :=
  runAlterSkip ⟨r, .none, true, eop, ss, sl, inc, sz, rss⟩ s

/-- CLE of the alter-skip group, first in its word (R146). -/
def execCleAsg (r : Reg) (ss sl inc sz rss : Bool) (s : State) : Res State :=
  runAlterSkip ⟨r, .none, false, .clear, ss, sl, inc, sz, rss⟩ s

/-- CME, first in its word (R147). -/
def execCme (r : Reg) (ss sl inc sz rss : Bool) (s : State) : Res State :=
  runAlterSkip ⟨r, .none, false, .complement, ss, sl, inc, sz, rss⟩ s

/-- CCE, first in its word (R148). -/
def execCce (r : Reg) (ss sl inc sz rss : Bool) (s : State) : Res State :=
  runAlterSkip ⟨r, .none, false, .clearComplement, ss, sl, inc, sz, rss⟩ s

/-- SSA, first in its word (R149). -/
def execSsa (sl inc sz rss : Bool) (s : State) : Res State :=
  runAlterSkip ⟨.A, .none, false, .none, true, sl, inc, sz, rss⟩ s

/-- SSB, first in its word (R149). -/
def execSsb (sl inc sz rss : Bool) (s : State) : Res State :=
  runAlterSkip ⟨.B, .none, false, .none, true, sl, inc, sz, rss⟩ s

/-- SLA of the alter-skip group, first in its word (R150). -/
def execSlaAsg (inc sz rss : Bool) (s : State) : Res State :=
  runAlterSkip ⟨.A, .none, false, .none, false, true, inc, sz, rss⟩ s

/-- SLB of the alter-skip group, first in its word (R150). -/
def execSlbAsg (inc sz rss : Bool) (s : State) : Res State :=
  runAlterSkip ⟨.B, .none, false, .none, false, true, inc, sz, rss⟩ s

/-- INA, first in its word (R153). -/
def execIna (sz rss : Bool) (s : State) : Res State :=
  runAlterSkip ⟨.A, .none, false, .none, false, false, true, sz, rss⟩ s

/-- INB, first in its word (R153). -/
def execInb (sz rss : Bool) (s : State) : Res State :=
  runAlterSkip ⟨.B, .none, false, .none, false, false, true, sz, rss⟩ s

/-- SZA, first in its word (R151). -/
def execSza (rss : Bool) (s : State) : Res State :=
  runAlterSkip ⟨.A, .none, false, .none, false, false, false, true, rss⟩ s

/-- SZB, first in its word (R151). -/
def execSzb (rss : Bool) (s : State) : Res State :=
  runAlterSkip ⟨.B, .none, false, .none, false, false, false, true, rss⟩ s

/-- RSS with no other alter-skip micro-instruction (R154). -/
def execRss (r : Reg) (s : State) : Res State :=
  runAlterSkip ⟨r, .none, false, .none, false, false, false, false, true⟩ s

end Sys2Proof.Machine
end

