-- ==== Sys2Proof/Machine/Channels.lean ====
section
/-! DEFINITION. The channel access functions of R171: flag bit, control bit, input and output register of each select
code. -/

namespace Sys2Proof.Machine

/-- The two DMA channels. -/
inductive DmaNumber where
  | one
  | two
  deriving DecidableEq, Repr

/-- The rows of R171 and R258. -/
inductive ChannelKind where
  /-- 00, global device and interrupt control. -/
  | system
  /-- 01, front panel and overflow. -/
  | panel
  /-- 02 and 03, DMA control. -/
  | dmaControl (n : DmaNumber)
  /-- 04, last interrupt address. -/
  | lastInterrupt
  /-- 05, memory protection and errors. -/
  | guard
  /-- 06 and 07, DMA. -/
  | dmaDevice (n : DmaNumber)
  /-- 10 to 77, an interface. -/
  | interface
  deriving DecidableEq, Repr

/-- The row of a select code. -/
def channelKind (sc : SelectCode) : ChannelKind :=
  match sc.toNat with
  | 0 => .system
  | 1 => .panel
  | 2 => .dmaControl .one
  | 3 => .dmaControl .two
  | 4 => .lastInterrupt
  | 5 => .guard
  | 6 => .dmaDevice .one
  | 7 => .dmaDevice .two
  | _ => .interface

/-- `HAS_S_REGISTER` (R8, R30, D28). -/
def hasSRegister (c : Config) : Bool :=
  match c.model with
  | .hp2100A => true
  | .hp2115 => false
  | .hp2116 => false
  | .hp2114 => c.sRegisterOn2114

/-- The registers of a DMA channel. -/
def DmaBoard.chan (b : DmaBoard) : DmaNumber → DmaChannel
  | .one => b.ch1
  | .two => b.ch2

/-- Change the registers of a DMA channel. -/
def DmaBoard.setChan (b : DmaBoard) (n : DmaNumber) (c : DmaChannel) : DmaBoard :=
  match n with
  | .one => { b with ch1 := c }
  | .two => { b with ch2 := c }

/-- `refuse(no such channel function)` (R171). -/
def noFunction {α : Type} (sc : SelectCode) : Res α := .refused (.noChannelFunction sc)

/-- Read what an installed part gives; refuse where it is not installed. -/
def readPart {β α : Type} (sc : SelectCode) (part : Option β) (f : β → α) : Res α :=
  match part with
  | some d => .next (f d)
  | none => noFunction sc

/-- Change the registers of a DMA channel where the board is installed (R171, R196, R197). -/
def updateDma (sc : SelectCode) (n : DmaNumber) (s : State) (f : DmaChannel → DmaChannel) : Res State :=
  match s.dma with
  | some b => .next (s.setDma (some (b.setChan n (f (b.chan n)))))
  | none => noFunction sc

/-- The memory protect board's registers, where it is installed (R34). -/
def GuardBoard.protect (g : GuardBoard) : Option ProtectRegs :=
  match g.regs with
  | .protect p => some p
  | .parity _ => none
  | .both p _ => some p

/-- The parity board's register, where it is installed (R34). -/
def GuardBoard.parity (g : GuardBoard) : Option ParityRegs :=
  match g.regs with
  | .protect _ => none
  | .parity q => some q
  | .both _ q => some q

/-- Change the memory protect board's registers, where it is installed. -/
def GuardBoard.updateProtect (f : ProtectRegs → ProtectRegs) (g : GuardBoard) : Option GuardBoard :=
  match g.regs with
  | .protect p => some { g with regs := .protect (f p) }
  | .parity _ => none
  | .both p q => some { g with regs := .both (f p) q }

/-- Change the parity board's register, where it is installed. -/
def GuardBoard.updateParity (f : ParityRegs → ParityRegs) (g : GuardBoard) : Option GuardBoard :=
  match g.regs with
  | .protect _ => none
  | .parity q => some { g with regs := .parity (f q) }
  | .both p q => some { g with regs := .both p (f q) }

/-- Change a register of the memory protect or the parity board where that board is installed (R34, R171, R201). A
function of channel 05 whose board is absent is no function of the channel (log entry 20). -/
def updateGuard (sc : SelectCode) (s : State) (f : GuardBoard → Option GuardBoard) : Res State :=
  match s.guard.bind f with
  | some g => .next (s.setGuard (some g))
  | none => noFunction sc

/-- Change an interface where one is installed (R171, R190). -/
def updateIface (sc : SelectCode) (s : State) (f : Interface → Interface) : Res State :=
  match s.iface sc with
  | some d => .next (s.setIface sc (f d))
  | none => noFunction sc

/-- `GetFlag(sc)` (R171). -/
def getFlag (sc : SelectCode) (s : State) : Res Bool :=
  match channelKind sc with
  | .system => .next s.ien
  | .panel => .next s.o
  | .dmaControl n => readPart sc s.dma (fun b => (b.chan n).complete)
  | .lastInterrupt => noFunction sc
  | .guard => readPart sc (s.guard.bind GuardBoard.parity) (fun q => q.enable)
  | .dmaDevice n => readPart sc s.dma (fun b => (b.chan n).abort)
  | .interface => readPart sc (s.iface sc) (fun d => d.flag)

/-- `SetFlag(sc, v)` (R171). -/
def setFlag (sc : SelectCode) (v : Bool) (s : State) : Res State :=
  match channelKind sc with
  | .system => .next (s.setIen v)
  | .panel => .next (s.setO v)
  | .dmaControl n => updateDma sc n s (fun c => { c with complete := v })
  | .lastInterrupt => noFunction sc
  | .guard => updateGuard sc s (GuardBoard.updateParity fun q => { q with enable := v })
  | .dmaDevice n => updateDma sc n s (fun c => { c with abort := v })
  | .interface => updateIface sc s (fun d => d.setFlag v)

/-- `SetCtl(sc, v)` (R171). Setting the control bit of 06 or 07 starts a DMA transfer, which the source does not
describe (R197, R200). -/
def setCtl (sc : SelectCode) (v : Bool) (s : State) : Res State :=
  match channelKind sc with
  | .system => .next (if v then s else clearControls s)
  | .panel => .next s
  | .dmaControl n => updateDma sc n s (fun c => { c with selLength := v })
  | .lastInterrupt => noFunction sc
  | .guard => updateGuard sc s (GuardBoard.updateProtect fun p => { p with enable := v })
  | .dmaDevice n =>
    andThen (updateDma sc n s (fun c => { c with start := v })) fun s' =>
      if v then .refused (.dmaTransfer sc) else .next s'
  | .interface => updateIface sc s (fun d => d.setCtl v)

/-- `Input(sc)` (R171). The input register of 06 and 07 is empty (R197). -/
def input (sc : SelectCode) (s : State) : Res Word :=
  match channelKind sc with
  | .system => .next 0
  | .panel => .next s.sreg
  | .dmaControl n => readPart sc s.dma (fun b => (b.chan n).length.setWidth 16)
  | .lastInterrupt => .next (s.cir.setWidth 16)
  | .guard => readPart sc s.guard (fun g => g.error)
  | .dmaDevice _ => noFunction sc
  | .interface => readPart sc (s.iface sc) (fun d => d.ibuf)

/-- A word sent to a DMA control channel: to the register its select bit names (R196, R199). -/
def DmaChannel.load (c : DmaChannel) (v : Word) : DmaChannel :=
  if c.selLength then { c with length := v.extractLsb' 0 14 } else { c with addr := v }

/-- `Output(sc, v)` (R171). -/
def output (sc : SelectCode) (v : Word) (s : State) : Res State :=
  match channelKind sc with
  | .system => .next s
  | .panel => .next (if hasSRegister s.cfg then s.setSreg v else s)
  | .dmaControl n => updateDma sc n s (fun c => c.load v)
  | .lastInterrupt => noFunction sc
  | .guard => updateGuard sc s (GuardBoard.updateProtect fun p => { p with upper := v })
  | .dmaDevice n => updateDma sc n s (fun c => { c with devOpt := v })
  | .interface => updateIface sc s (fun d => { d with obuf := v })

end Sys2Proof.Machine
end

