-- ==== Sys2Proof/Machine/InputOutput.lean ====
section
/-! DEFINITION. The Input/Output Group (R170 to R193, R196 to R201). Every instruction does its main action, then clears
the flag if `f` is 1, then skips (R170). -/

namespace Sys2Proof.Machine

/-- The flag clear of R170. -/
def clearIf (f : Bool) (sc : SelectCode) (s : State) : Res State := if f then setFlag sc false s else .next s

/-- HLT (R172): RUN <- 0, then the flag clear. -/
def halt (f : Bool) (sc : SelectCode) (s : State) : Res State := clearIf f sc (s.setRun false)

/-- SFS (`want` true) and SFC (`want` false): the test, then the flag clear, then the skip (R175, R176, R184, R185,
R170). -/
def skipOnFlag (want f : Bool) (sc : SelectCode) (s : State) : Res State :=
  andThen (getFlag sc s) fun v => andThen (clearIf f sc s) fun s' => .next (s'.skipIf (v == want))

/-- SFS and SFC off select code 01: with bit 9 = 1 the word is not listed and `SFX_CLEAR_FORM` decides (R93). -/
def skipOnFlagListed (want f : Bool) (sc : SelectCode) (s : State) : Res State :=
  if f && s.cfg.sfxClearForm == .refuse then .refused (.clearFormNotListed sc) else skipOnFlag want f sc s

/-- MIr (R177). -/
def mergeInput (r : Reg) (f : Bool) (sc : SelectCode) (s : State) : Res State :=
  andThen (input sc s) fun v => clearIf f sc (s.setReg r (s.reg r ||| v))

/-- LIr (R178). -/
def loadInput (r : Reg) (f : Bool) (sc : SelectCode) (s : State) : Res State :=
  andThen (input sc s) fun v => clearIf f sc (s.setReg r v)

/-- OTr (R179). -/
def outputReg (r : Reg) (f : Bool) (sc : SelectCode) (s : State) : Res State :=
  andThen (output sc (s.reg r) s) (clearIf f sc)

/-- STC and CLC (R180, R181). -/
def writeControl (v f : Bool) (sc : SelectCode) (s : State) : Res State := andThen (setCtl sc v s) (clearIf f sc)

/-- HLT (R172). -/
def execHlt (f : Bool) (sc : SelectCode) (s : State) : Res State :=
  halt f sc s

/-- STF on a select code other than 01 (R173). -/
def execStf (sc : SelectCode) (s : State) : Res State :=
  setFlag sc true s

/-- CLF on a select code other than 01 (R174). -/
def execClf (sc : SelectCode) (s : State) : Res State :=
  setFlag sc false s

/-- SFC on a select code other than 01; `f` is bit 9, printed 0 in its row (R175, R93). -/
def execSfc (f : Bool) (sc : SelectCode) (s : State) : Res State :=
  skipOnFlagListed false f sc s

/-- SFS on a select code other than 01; `f` is bit 9, printed 0 in its row (R176, R93). -/
def execSfs (f : Bool) (sc : SelectCode) (s : State) : Res State :=
  skipOnFlagListed true f sc s

/-- MIA (R177). -/
def execMia (f : Bool) (sc : SelectCode) (s : State) : Res State :=
  mergeInput .A f sc s

/-- MIB (R177). -/
def execMib (f : Bool) (sc : SelectCode) (s : State) : Res State :=
  mergeInput .B f sc s

/-- LIA (R178). -/
def execLia (f : Bool) (sc : SelectCode) (s : State) : Res State :=
  loadInput .A f sc s

/-- LIB (R178). -/
def execLib (f : Bool) (sc : SelectCode) (s : State) : Res State :=
  loadInput .B f sc s

/-- OTA (R179). -/
def execOta (f : Bool) (sc : SelectCode) (s : State) : Res State :=
  outputReg .A f sc s

/-- OTB (R179). -/
def execOtb (f : Bool) (sc : SelectCode) (s : State) : Res State :=
  outputReg .B f sc s

/-- STC (R180). -/
def execStc (f : Bool) (sc : SelectCode) (s : State) : Res State :=
  writeControl true f sc s

/-- CLC (R181). -/
def execClc (f : Bool) (sc : SelectCode) (s : State) : Res State :=
  writeControl false f sc s

/-- STO, that is STF 01 (R182). -/
def execSto (s : State) : Res State :=
  setFlag 1 true s

/-- CLO, that is CLF 01 (R183). -/
def execClo (s : State) : Res State :=
  setFlag 1 false s

/-- SOS, that is SFS 01 (R184). -/
def execSos (f : Bool) (s : State) : Res State :=
  skipOnFlag true f 1 s

/-- SOC, that is SFC 01 (R185). -/
def execSoc (f : Bool) (s : State) : Res State :=
  skipOnFlag false f 1 s

end Sys2Proof.Machine
end

