-- ==== Sys2Proof/Machine/Operands.lean ====
section
/-! DEFINITION. The operands: the direct address, the chain of indirect words, the effective address (R57, R58). -/

namespace Sys2Proof.Machine

/-- The page number of an address, bits 14:10 (R53). -/
def page (a : Addr) : BitVec 5 := a.extractLsb' 10 5

/-- `D(ir, fa)` (R57): `m` in page zero or in the page the instruction was fetched from. -/
def directAddr (x : MemRef) (fa : Addr) : Addr := (if x.cur then page fa else 0#5) ++ x.m

/-- The address in bits 14:0 of an address word (R58). -/
def addrOf (w : Word) : Addr := w.extractLsb' 0 15

/-- The chain of indirect words from `a` (R58), reading at most `fuel` words. Bit 15 of a word asks for a further
level where `INDIRECT_MULTILEVEL` holds. -/
def followChain (s : State) : Nat → Addr → Res Addr
  | 0, _ => .fault .indirectHang
  | n + 1, a =>
    andThen (memRead s a) fun w =>
      if w.getLsbD 15 && s.cfg.indirectMultilevel then followChain s n (addrOf w) else .next (addrOf w)

/-- The number of addresses. A chain reads one word an address and the reads change nothing, so a chain that reads more
words than there are addresses has come back to one of them and never ends (R59). -/
def chainFuel : Nat := 32768

/-- `EA(ir, fa)` (R58). -/
def effectiveAddr (s : State) (x : MemRef) : Res Addr :=
  if x.ind then followChain s chainFuel (directAddr x s.fa) else .next (directAddr x s.fa)

end Sys2Proof.Machine
end

