-- ==== Sys2Proof/Machine/MemoryReference.lean ====
section
/-! DEFINITION. The Memory Reference Group (R210 to R222). -/

namespace Sys2Proof.Machine

/-- The operand: the word at the effective address (R210). -/
def operand (s : State) (x : MemRef) : Res Word := andThen (effectiveAddr s x) (memRead s)

/-- LDr (R211). -/
def loadMem (r : Reg) (x : MemRef) (s : State) : Res State := andThen (operand s x) fun v => .next (s.setReg r v)

/-- STr (R212). -/
def storeMem (r : Reg) (x : MemRef) (s : State) : Res State :=
  andThen (effectiveAddr s x) fun m => memWrite s m (s.reg r)

/-- ADr (R213). -/
def addMem (r : Reg) (x : MemRef) (s : State) : Res State := andThen (operand s x) fun v => .next (addToReg r v s)

/-- CPr (R214). -/
def compareMem (r : Reg) (x : MemRef) (s : State) : Res State :=
  andThen (operand s x) fun v => .next (s.skipIf (s.reg r != v))

/-- AND, XOR, IOR (R215, R216, R217): always on A. -/
def combineA (f : Word → Word → Word) (x : MemRef) (s : State) : Res State :=
  andThen (operand s x) fun v => .next (s.setReg .A (f s.a v))

/-- ISZ (R218): the new value is stored, then tested. E and O are not written, even at locations 0 and 1. -/
def incrementSkip (x : MemRef) (s : State) : Res State :=
  andThen (effectiveAddr s x) fun m =>
    andThen (memRead s m) fun v => andThen (memWrite s m (v + 1)) fun s' => .next (s'.skipIf (v + 1 == 0))

/-- JMP (R219). -/
def jump (x : MemRef) (s : State) : Res State := andThen (effectiveAddr s x) fun m => .next (s.setP m)

/-- JSB (R220): P, already advanced by a normal fetch and not by an interrupt's, is stored; then P <- M + 1. -/
def jumpSubroutine (x : MemRef) (s : State) : Res State :=
  andThen (effectiveAddr s x) fun m => andThen (memWrite s m (s.p.setWidth 16)) fun s' => .next (s'.setP (m + 1))

/-- AND (R215). -/
def execAnd (x : MemRef) (s : State) : Res State :=
  combineA (fun a m => a &&& m) x s

/-- JSB (R220). -/
def execJsb (x : MemRef) (s : State) : Res State :=
  jumpSubroutine x s

/-- XOR (R216). -/
def execXor (x : MemRef) (s : State) : Res State :=
  combineA (fun a m => a ^^^ m) x s

/-- JMP (R219). -/
def execJmp (x : MemRef) (s : State) : Res State :=
  jump x s

/-- IOR (R217). -/
def execIor (x : MemRef) (s : State) : Res State :=
  combineA (fun a m => a ||| m) x s

/-- ISZ (R218). -/
def execIsz (x : MemRef) (s : State) : Res State :=
  incrementSkip x s

/-- ADA (R213). -/
def execAda (x : MemRef) (s : State) : Res State :=
  addMem .A x s

/-- ADB (R213). -/
def execAdb (x : MemRef) (s : State) : Res State :=
  addMem .B x s

/-- CPA (R214). -/
def execCpa (x : MemRef) (s : State) : Res State :=
  compareMem .A x s

/-- CPB (R214). -/
def execCpb (x : MemRef) (s : State) : Res State :=
  compareMem .B x s

/-- LDA (R211). -/
def execLda (x : MemRef) (s : State) : Res State :=
  loadMem .A x s

/-- LDB (R211). -/
def execLdb (x : MemRef) (s : State) : Res State :=
  loadMem .B x s

/-- STA (R212). -/
def execSta (x : MemRef) (s : State) : Res State :=
  storeMem .A x s

/-- STB (R212). -/
def execStb (x : MemRef) (s : State) : Res State :=
  storeMem .B x s

end Sys2Proof.Machine
end

