-- ==== Sys2Proof/WellFormed.lean ====
section
/-! DEFINITION. Which terms of Instr the decoder can produce. Three checks: a code in a position that does nothing is
not a rotate-with-E code (R123 gives those an effect); the words that select nothing are not the NOP word; and the
flag instructions on select code 01 are STO, CLO, SOS, SOC (R98). -/

namespace Sys2Proof

/-- A shift code that does nothing when its enable bit is 0 (R91): any but ERr and ELr. -/
def ShiftCode.idle : ShiftCode → Bool
  | .er | .el => false
  | .ls | .rs | .rl | .rr | .lr | .lf => true

/-- The select code is not 01, whose flag instructions have names of their own (R98). -/
def notOverflow (sc : SelectCode) : Bool := sc != 1

/-- The terms that stand for a word. -/
def Instr.wf : Instr → Bool
  | .noEffectSrg r c1 c2 => c1.idle && c2.idle && !(r == .A && c1 == .ls && c2 == .ls)
  | .cleSrg _ c1 _ _ => c1.idle
  | .slaSrg c1 _ | .slbSrg c1 _ => c1.idle
  | .als2 c1 | .bls2 c1 | .ars2 c1 | .brs2 c1 | .ral2 c1 | .rbl2 c1 | .rar2 c1 | .rbr2 c1 => c1.idle
  | .alr2 c1 | .blr2 c1 | .era2 c1 | .erb2 c1 | .ela2 c1 | .elb2 c1 | .alf2 c1 | .blf2 c1 => c1.idle
  | .eraDisabled2 c1 | .erbDisabled2 c1 | .elaDisabled2 c1 | .elbDisabled2 c1 => c1.idle
  | .stf sc | .clf sc | .sfc _ sc | .sfs _ sc => notOverflow sc
  | .nop | .als1 .. | .bls1 .. | .ars1 .. | .brs1 .. | .ral1 .. | .rbl1 .. | .rar1 .. | .rbr1 .. | .alr1 ..
  | .blr1 .. | .era1 .. | .erb1 .. | .ela1 .. | .elb1 .. | .alf1 .. | .blf1 .. | .eraDisabled1 .. | .erbDisabled1 ..
  | .elaDisabled1 .. | .elbDisabled1 .. => true
  | .noEffectAsg .. | .cla .. | .clb .. | .cma .. | .cmb .. | .cca .. | .ccb .. | .sez .. | .cleAsg .. | .cme ..
  | .cce .. | .ssa .. | .ssb .. | .slaAsg .. | .slbAsg .. | .ina .. | .inb .. | .sza .. | .szb .. | .rss .. => true
  | .hlt .. | .mia .. | .mib .. | .lia .. | .lib .. | .ota .. | .otb .. | .stc .. | .clc .. | .sto | .clo | .sos ..
  | .soc .. => true
  | .and .. | .jsb .. | .xor .. | .jmp .. | .ior .. | .isz .. | .ada .. | .adb .. | .cpa .. | .cpb .. | .lda ..
  | .ldb .. | .sta .. | .stb .. => true

end Sys2Proof
end

