-- ==== Sys2Proof/Decode.lean ====
section
/-! DEFINITION. The decoder of 16-bit words (total; unlisted words are rejected by name) and, after it, the encoder. -/

namespace Sys2Proof

/-- A word the decoder rejects. -/
inductive DecodeError where
  /-- Bits 15:12 = 1000 and bit 10 = 0: the word is in no row of the source (R92, D12). -/
  | unlisted
  deriving DecidableEq, Repr

/-- Bit `i` of a word (R9). -/
def bit (w : Word) (i : Nat) : Bool := w.getLsbD i

/-- The `len` bits of a word from bit `lo` up (R9). -/
def field (w : Word) (lo len : Nat) : BitVec len := w.extractLsb' lo len

/-- The register bit: 0 is A, 1 is B (R12). -/
def regOfBit (b : Bool) : Reg := if b then .B else .A

/-- The shift codes of R85. -/
def shiftOfBits (v : BitVec 3) : ShiftCode :=
  match v.toNat with
  | 0 => .ls
  | 1 => .rs
  | 2 => .rl
  | 3 => .rr
  | 4 => .lr
  | 5 => .er
  | 6 => .el
  | _ => .lf

/-- The fields `rop` and `eop` of R86: 01 clear, 10 complement, 11 both. -/
def alterOfBits (v : BitVec 2) : AlterOp :=
  match v.toNat with
  | 0 => .none
  | 1 => .clear
  | 2 => .complement
  | _ => .clearComplement

/-- The fields of a shift-rotate word (R84). -/
def srgFields (w : Word) : SrgWord where
  r := regOfBit (bit w 11)
  s1 := ⟨bit w 9, shiftOfBits (field w 6 3)⟩
  cle := bit w 5
  sl := bit w 3
  s2 := ⟨bit w 4, shiftOfBits (field w 0 3)⟩

/-- The fields of an alter-skip word (R86). -/
def asgFields (w : Word) : AsgWord where
  r := regOfBit (bit w 11)
  rop := alterOfBits (field w 8 2)
  sez := bit w 5
  eop := alterOfBits (field w 6 2)
  ss := bit w 4
  sl := bit w 3
  inc := bit w 2
  sz := bit w 1
  rss := bit w 0

/-- The operand fields of a memory reference word (R82). -/
def memRef (w : Word) : MemRef := ⟨bit w 15, bit w 10, field w 0 10⟩

/-- A word whose first micro-instruction is an enabled shift in the first position (R85). -/
def firstShift (r : Reg) (c : ShiftCode) (cle sl : Bool) (s2 : Slot) : Instr :=
  match r, c with
  | .A, .ls => .als1 cle sl s2
  | .B, .ls => .bls1 cle sl s2
  | .A, .rs => .ars1 cle sl s2
  | .B, .rs => .brs1 cle sl s2
  | .A, .rl => .ral1 cle sl s2
  | .B, .rl => .rbl1 cle sl s2
  | .A, .rr => .rar1 cle sl s2
  | .B, .rr => .rbr1 cle sl s2
  | .A, .lr => .alr1 cle sl s2
  | .B, .lr => .blr1 cle sl s2
  | .A, .er => .era1 cle sl s2
  | .B, .er => .erb1 cle sl s2
  | .A, .el => .ela1 cle sl s2
  | .B, .el => .elb1 cle sl s2
  | .A, .lf => .alf1 cle sl s2
  | .B, .lf => .blf1 cle sl s2

/-- A word whose only micro-instruction is an enabled shift in the second position (R85). -/
def secondShift (r : Reg) (c1 c : ShiftCode) : Instr :=
  match r, c with
  | .A, .ls => .als2 c1
  | .B, .ls => .bls2 c1
  | .A, .rs => .ars2 c1
  | .B, .rs => .brs2 c1
  | .A, .rl => .ral2 c1
  | .B, .rl => .rbl2 c1
  | .A, .rr => .rar2 c1
  | .B, .rr => .rbr2 c1
  | .A, .lr => .alr2 c1
  | .B, .lr => .blr2 c1
  | .A, .er => .era2 c1
  | .B, .er => .erb2 c1
  | .A, .el => .ela2 c1
  | .B, .el => .elb2 c1
  | .A, .lf => .alf2 c1
  | .B, .lf => .blf2 c1

/-- The instruction a shift-rotate word is: its first micro-instruction in the column order of R94, a disabled
rotate-with-E (R123) standing where the enabled one would. -/
def srgInstr (w : SrgWord) : Instr :=
  if w.s1.en then firstShift w.r w.s1.code w.cle w.sl w.s2
  else
    match w.s1.code, w.r with
    | .er, .A => .eraDisabled1 w.cle w.sl w.s2
    | .er, .B => .erbDisabled1 w.cle w.sl w.s2
    | .el, .A => .elaDisabled1 w.cle w.sl w.s2
    | .el, .B => .elbDisabled1 w.cle w.sl w.s2
    | c1, r =>
      if w.cle then .cleSrg r c1 w.sl w.s2
      else if w.sl then (match r with | .A => .slaSrg c1 w.s2 | .B => .slbSrg c1 w.s2)
      else if w.s2.en then secondShift r c1 w.s2.code
      else
        match w.s2.code, r with
        | .er, .A => .eraDisabled2 c1
        | .er, .B => .erbDisabled2 c1
        | .el, .A => .elaDisabled2 c1
        | .el, .B => .elbDisabled2 c1
        | c2, r => if r == .A && c1 == .ls && c2 == .ls then .nop else .noEffectSrg r c1 c2

/-- The instruction an alter-skip word is: its first micro-instruction in the column order of R95. -/
def asgInstr (w : AsgWord) : Instr :=
  match w.rop, w.r with
  | .clear, .A => .cla w.sez w.eop w.ss w.sl w.inc w.sz w.rss
  | .clear, .B => .clb w.sez w.eop w.ss w.sl w.inc w.sz w.rss
  | .complement, .A => .cma w.sez w.eop w.ss w.sl w.inc w.sz w.rss
  | .complement, .B => .cmb w.sez w.eop w.ss w.sl w.inc w.sz w.rss
  | .clearComplement, .A => .cca w.sez w.eop w.ss w.sl w.inc w.sz w.rss
  | .clearComplement, .B => .ccb w.sez w.eop w.ss w.sl w.inc w.sz w.rss
  | .none, r =>
    if w.sez then .sez r w.eop w.ss w.sl w.inc w.sz w.rss
    else
      match w.eop with
      | .clear => .cleAsg r w.ss w.sl w.inc w.sz w.rss
      | .complement => .cme r w.ss w.sl w.inc w.sz w.rss
      | .clearComplement => .cce r w.ss w.sl w.inc w.sz w.rss
      | .none =>
        if w.ss then (match r with | .A => .ssa w.sl w.inc w.sz w.rss | .B => .ssb w.sl w.inc w.sz w.rss)
        else if w.sl then (match r with | .A => .slaAsg w.inc w.sz w.rss | .B => .slbAsg w.inc w.sz w.rss)
        else if w.inc then (match r with | .A => .ina w.sz w.rss | .B => .inb w.sz w.rss)
        else if w.sz then (match r with | .A => .sza w.rss | .B => .szb w.rss)
        else if w.rss then .rss r
        else .noEffectAsg r

/-- The instruction an input/output word is (R88). Bit 11 is read by MIr, LIr, OTr, STC and CLC only (R90); the flag
instructions on select code 01 are STO, CLO, SOS and SOC (R98). -/
def iogInstr (r f : Bool) (sub : BitVec 3) (sc : SelectCode) : Instr :=
  match sub.toNat with
  | 0 => .hlt f sc
  | 1 => if sc = 1 then (if f then .clo else .sto) else (if f then .clf sc else .stf sc)
  | 2 => if sc = 1 then .soc f else .sfc f sc
  | 3 => if sc = 1 then .sos f else .sfs f sc
  | 4 => if r then .mib f sc else .mia f sc
  | 5 => if r then .lib f sc else .lia f sc
  | 6 => if r then .otb f sc else .ota f sc
  | _ => if r then .clc f sc else .stc f sc

/-- The instruction a memory reference word is, by bits 14:11 (R83). -/
def mrgInstr (op : BitVec 4) (x : MemRef) : Instr :=
  match op.toNat with
  | 2 => .and x
  | 3 => .jsb x
  | 4 => .xor x
  | 5 => .jmp x
  | 6 => .ior x
  | 7 => .isz x
  | 8 => .ada x
  | 9 => .adb x
  | 10 => .cpa x
  | 11 => .cpb x
  | 12 => .lda x
  | 13 => .ldb x
  | 14 => .sta x
  | _ => .stb x

/-- The decoder: the group table of R81, then the map of the group. -/
def decode (w : Word) : Except DecodeError Instr :=
  if field w 12 3 ≠ 0 then .ok (mrgInstr (field w 11 4) (memRef w))
  else
    match bit w 15, bit w 10 with
    | false, false => .ok (srgInstr (srgFields w))
    | false, true => .ok (asgInstr (asgFields w))
    | true, true => .ok (iogInstr (bit w 11) (bit w 9) (field w 6 3) (field w 0 6))
    | true, false => .error .unlisted

/-- The word of a table row: its `nbits` low bits, every higher bit 0. Every instruction is one word (R80). -/
def tableWord (nbits w : Nat) : Word := BitVec.ofNat 16 (w % 2 ^ nbits)

/-- The instruction the decoder reads from a table row's bits, none where it rejects them. -/
def decodeTableWord (nbits w : Nat) : Option Instr :=
  match decode (tableWord nbits w) with
  | .ok i => some i
  | .error _ => none

/-- One bit, as a vector. -/
def ofFlag (b : Bool) : BitVec 1 := BitVec.ofBool b

/-- The register bit. -/
def regBit : Reg → BitVec 1
  | .A => 0
  | .B => 1

/-- The bits of a shift code (R85). -/
def shiftBits : ShiftCode → BitVec 3
  | .ls => 0
  | .rs => 1
  | .rl => 2
  | .rr => 3
  | .lr => 4
  | .er => 5
  | .el => 6
  | .lf => 7

/-- The bits of `rop` or `eop` (R86). -/
def alterBits : AlterOp → BitVec 2
  | .none => 0
  | .clear => 1
  | .complement => 2
  | .clearComplement => 3

/-- The word of a shift-rotate word's fields (R84). -/
def encodeSrg (w : SrgWord) : Word :=
  0#4 ++ regBit w.r ++ 0#1 ++ ofFlag w.s1.en ++ shiftBits w.s1.code ++ ofFlag w.cle ++ ofFlag w.s2.en ++ ofFlag w.sl
    ++ shiftBits w.s2.code

/-- The word of an alter-skip word's fields (R86). -/
def encodeAsg (w : AsgWord) : Word :=
  0#4 ++ regBit w.r ++ 1#1 ++ alterBits w.rop ++ alterBits w.eop ++ ofFlag w.sez ++ ofFlag w.ss ++ ofFlag w.sl
    ++ ofFlag w.inc ++ ofFlag w.sz ++ ofFlag w.rss

/-- The word of an input/output instruction (R87); `r` is bit 11, which is 0 where it does not matter (R90). -/
def encodeIog (r f : Bool) (sub : BitVec 3) (sc : SelectCode) : Word :=
  8#4 ++ ofFlag r ++ 1#1 ++ ofFlag f ++ sub ++ sc

/-- The word of a memory reference instruction (R82, R83); `op` is bits 14:11. -/
def encodeMrg (op : BitVec 4) (x : MemRef) : Word :=
  ofFlag x.ind ++ op ++ ofFlag x.cur ++ x.m

/-- A word whose first position is enabled. -/
def SrgWord.first (r : Reg) (c : ShiftCode) (cle sl : Bool) (s2 : Slot) : SrgWord := ⟨r, ⟨true, c⟩, cle, sl, s2⟩

/-- A word whose first position is coded and not enabled. -/
def SrgWord.firstOff (r : Reg) (c : ShiftCode) (cle sl : Bool) (s2 : Slot) : SrgWord := ⟨r, ⟨false, c⟩, cle, sl, s2⟩

/-- A word that begins with CLE. -/
def SrgWord.fromCle (r : Reg) (c1 : ShiftCode) (sl : Bool) (s2 : Slot) : SrgWord := ⟨r, ⟨false, c1⟩, true, sl, s2⟩

/-- A word that begins with SLr. -/
def SrgWord.fromSl (r : Reg) (c1 : ShiftCode) (s2 : Slot) : SrgWord := ⟨r, ⟨false, c1⟩, false, true, s2⟩

/-- A word that holds only an enabled second position. -/
def SrgWord.second (r : Reg) (c1 c : ShiftCode) : SrgWord := ⟨r, ⟨false, c1⟩, false, false, ⟨true, c⟩⟩

/-- A word that holds only a second position that is coded and not enabled. -/
def SrgWord.secondOff (r : Reg) (c1 c : ShiftCode) : SrgWord := ⟨r, ⟨false, c1⟩, false, false, ⟨false, c⟩⟩

/-- A word that selects nothing. -/
def SrgWord.idle (r : Reg) (c1 c2 : ShiftCode) : SrgWord := ⟨r, ⟨false, c1⟩, false, false, ⟨false, c2⟩⟩

/-- The word of a well-formed instruction, from the formats of R82 to R88. -/
def encode : Instr → Word
  | .nop => encodeSrg (SrgWord.idle .A .ls .ls)
  | .noEffectSrg r c1 c2 => encodeSrg (SrgWord.idle r c1 c2)
  | .cleSrg r c1 sl s2 => encodeSrg (SrgWord.fromCle r c1 sl s2)
  | .slaSrg c1 s2 => encodeSrg (SrgWord.fromSl .A c1 s2)
  | .slbSrg c1 s2 => encodeSrg (SrgWord.fromSl .B c1 s2)
  | .als1 cle sl s2 => encodeSrg (SrgWord.first .A .ls cle sl s2)
  | .als2 c1 => encodeSrg (SrgWord.second .A c1 .ls)
  | .bls1 cle sl s2 => encodeSrg (SrgWord.first .B .ls cle sl s2)
  | .bls2 c1 => encodeSrg (SrgWord.second .B c1 .ls)
  | .ars1 cle sl s2 => encodeSrg (SrgWord.first .A .rs cle sl s2)
  | .ars2 c1 => encodeSrg (SrgWord.second .A c1 .rs)
  | .brs1 cle sl s2 => encodeSrg (SrgWord.first .B .rs cle sl s2)
  | .brs2 c1 => encodeSrg (SrgWord.second .B c1 .rs)
  | .ral1 cle sl s2 => encodeSrg (SrgWord.first .A .rl cle sl s2)
  | .ral2 c1 => encodeSrg (SrgWord.second .A c1 .rl)
  | .rbl1 cle sl s2 => encodeSrg (SrgWord.first .B .rl cle sl s2)
  | .rbl2 c1 => encodeSrg (SrgWord.second .B c1 .rl)
  | .rar1 cle sl s2 => encodeSrg (SrgWord.first .A .rr cle sl s2)
  | .rar2 c1 => encodeSrg (SrgWord.second .A c1 .rr)
  | .rbr1 cle sl s2 => encodeSrg (SrgWord.first .B .rr cle sl s2)
  | .rbr2 c1 => encodeSrg (SrgWord.second .B c1 .rr)
  | .alr1 cle sl s2 => encodeSrg (SrgWord.first .A .lr cle sl s2)
  | .alr2 c1 => encodeSrg (SrgWord.second .A c1 .lr)
  | .blr1 cle sl s2 => encodeSrg (SrgWord.first .B .lr cle sl s2)
  | .blr2 c1 => encodeSrg (SrgWord.second .B c1 .lr)
  | .era1 cle sl s2 => encodeSrg (SrgWord.first .A .er cle sl s2)
  | .era2 c1 => encodeSrg (SrgWord.second .A c1 .er)
  | .erb1 cle sl s2 => encodeSrg (SrgWord.first .B .er cle sl s2)
  | .erb2 c1 => encodeSrg (SrgWord.second .B c1 .er)
  | .ela1 cle sl s2 => encodeSrg (SrgWord.first .A .el cle sl s2)
  | .ela2 c1 => encodeSrg (SrgWord.second .A c1 .el)
  | .elb1 cle sl s2 => encodeSrg (SrgWord.first .B .el cle sl s2)
  | .elb2 c1 => encodeSrg (SrgWord.second .B c1 .el)
  | .alf1 cle sl s2 => encodeSrg (SrgWord.first .A .lf cle sl s2)
  | .alf2 c1 => encodeSrg (SrgWord.second .A c1 .lf)
  | .blf1 cle sl s2 => encodeSrg (SrgWord.first .B .lf cle sl s2)
  | .blf2 c1 => encodeSrg (SrgWord.second .B c1 .lf)
  | .eraDisabled1 cle sl s2 => encodeSrg (SrgWord.firstOff .A .er cle sl s2)
  | .eraDisabled2 c1 => encodeSrg (SrgWord.secondOff .A c1 .er)
  | .erbDisabled1 cle sl s2 => encodeSrg (SrgWord.firstOff .B .er cle sl s2)
  | .erbDisabled2 c1 => encodeSrg (SrgWord.secondOff .B c1 .er)
  | .elaDisabled1 cle sl s2 => encodeSrg (SrgWord.firstOff .A .el cle sl s2)
  | .elaDisabled2 c1 => encodeSrg (SrgWord.secondOff .A c1 .el)
  | .elbDisabled1 cle sl s2 => encodeSrg (SrgWord.firstOff .B .el cle sl s2)
  | .elbDisabled2 c1 => encodeSrg (SrgWord.secondOff .B c1 .el)
  | .noEffectAsg r => encodeAsg ⟨r, .none, false, .none, false, false, false, false, false⟩
  | .cla sez eop ss sl inc sz rss => encodeAsg ⟨.A, .clear, sez, eop, ss, sl, inc, sz, rss⟩
  | .clb sez eop ss sl inc sz rss => encodeAsg ⟨.B, .clear, sez, eop, ss, sl, inc, sz, rss⟩
  | .cma sez eop ss sl inc sz rss => encodeAsg ⟨.A, .complement, sez, eop, ss, sl, inc, sz, rss⟩
  | .cmb sez eop ss sl inc sz rss => encodeAsg ⟨.B, .complement, sez, eop, ss, sl, inc, sz, rss⟩
  | .cca sez eop ss sl inc sz rss => encodeAsg ⟨.A, .clearComplement, sez, eop, ss, sl, inc, sz, rss⟩
  | .ccb sez eop ss sl inc sz rss => encodeAsg ⟨.B, .clearComplement, sez, eop, ss, sl, inc, sz, rss⟩
  | .sez r eop ss sl inc sz rss => encodeAsg ⟨r, .none, true, eop, ss, sl, inc, sz, rss⟩
  | .cleAsg r ss sl inc sz rss => encodeAsg ⟨r, .none, false, .clear, ss, sl, inc, sz, rss⟩
  | .cme r ss sl inc sz rss => encodeAsg ⟨r, .none, false, .complement, ss, sl, inc, sz, rss⟩
  | .cce r ss sl inc sz rss => encodeAsg ⟨r, .none, false, .clearComplement, ss, sl, inc, sz, rss⟩
  | .ssa sl inc sz rss => encodeAsg ⟨.A, .none, false, .none, true, sl, inc, sz, rss⟩
  | .ssb sl inc sz rss => encodeAsg ⟨.B, .none, false, .none, true, sl, inc, sz, rss⟩
  | .slaAsg inc sz rss => encodeAsg ⟨.A, .none, false, .none, false, true, inc, sz, rss⟩
  | .slbAsg inc sz rss => encodeAsg ⟨.B, .none, false, .none, false, true, inc, sz, rss⟩
  | .ina sz rss => encodeAsg ⟨.A, .none, false, .none, false, false, true, sz, rss⟩
  | .inb sz rss => encodeAsg ⟨.B, .none, false, .none, false, false, true, sz, rss⟩
  | .sza rss => encodeAsg ⟨.A, .none, false, .none, false, false, false, true, rss⟩
  | .szb rss => encodeAsg ⟨.B, .none, false, .none, false, false, false, true, rss⟩
  | .rss r => encodeAsg ⟨r, .none, false, .none, false, false, false, false, true⟩
  | .hlt f sc => encodeIog false f 0 sc
  | .stf sc => encodeIog false false 1 sc
  | .clf sc => encodeIog false true 1 sc
  | .sfc f sc => encodeIog false f 2 sc
  | .sfs f sc => encodeIog false f 3 sc
  | .mia f sc => encodeIog false f 4 sc
  | .mib f sc => encodeIog true f 4 sc
  | .lia f sc => encodeIog false f 5 sc
  | .lib f sc => encodeIog true f 5 sc
  | .ota f sc => encodeIog false f 6 sc
  | .otb f sc => encodeIog true f 6 sc
  | .stc f sc => encodeIog false f 7 sc
  | .clc f sc => encodeIog true f 7 sc
  | .sto => encodeIog false false 1 1
  | .clo => encodeIog false true 1 1
  | .sos f => encodeIog false f 3 1
  | .soc f => encodeIog false f 2 1
  | .and x => encodeMrg 2 x
  | .jsb x => encodeMrg 3 x
  | .xor x => encodeMrg 4 x
  | .jmp x => encodeMrg 5 x
  | .ior x => encodeMrg 6 x
  | .isz x => encodeMrg 7 x
  | .ada x => encodeMrg 8 x
  | .adb x => encodeMrg 9 x
  | .cpa x => encodeMrg 10 x
  | .cpb x => encodeMrg 11 x
  | .lda x => encodeMrg 12 x
  | .ldb x => encodeMrg 13 x
  | .sta x => encodeMrg 14 x
  | .stb x => encodeMrg 15 x

end Sys2Proof
end

