-- ==== Sys2Proof/Machine/ShiftRotate.lean ====
section
/-! DEFINITION. The Shift-Rotate Group (R110 to R124). -/

namespace Sys2Proof.Machine

/-- The enabled shifts of R111: the new register value and the new E. -/
def shiftValue (c : ShiftCode) (t : Word) (e : Bool) : Word × Bool :=
  match c with
  | .ls => (t.extractLsb' 15 1 ++ t.extractLsb' 0 14 ++ 0#1, e)
  | .rs => (t.extractLsb' 15 1 ++ t.extractLsb' 15 1 ++ t.extractLsb' 1 14, e)
  | .rl => (t.extractLsb' 0 15 ++ t.extractLsb' 15 1, e)
  | .rr => (t.extractLsb' 0 1 ++ t.extractLsb' 1 15, e)
  | .lr => (0#1 ++ t.extractLsb' 0 14 ++ 0#1, e)
  | .er => (BitVec.ofBool e ++ t.extractLsb' 1 15, t.getLsbD 0)
  | .el => (t.extractLsb' 0 15 ++ BitVec.ofBool e, t.getLsbD 15)
  | .lf => (t.extractLsb' 0 12 ++ t.extractLsb' 12 4, e)

/-- `Slot(code, en, t, E)` (R111): E is written as in the enabled shift, the register only if enabled. A disabled
rotate-with-E so writes E (R123); every other disabled code does nothing. -/
def runSlot (p : Slot) (t : Word) (e : Bool) : Word × Bool :=
  let out := shiftValue p.code t e
  (if p.en then out.1 else t, out.2)

/-- The execution of a shift-rotate word (R110). -/
def runShiftRotate (w : SrgWord) (s : State) : Res State :=
  let first := runSlot w.s1 (s.reg w.r) s.e
  let e := if w.cle then false else first.2
  let sk := w.sl && !first.1.getLsbD 0
  let second := runSlot w.s2 first.1 e
  .next (((s.setReg w.r second.1).setE second.2).skipIf sk)

/-- NOP, the zero word (R112). -/
def execNop (s : State) : Res State :=
  runShiftRotate (SrgWord.idle .A .ls .ls) s

/-- the shift-rotate words other than 000000 that select nothing (R91). -/
def execNoEffectSrg (r : Reg) (c1 c2 : ShiftCode) (s : State) : Res State :=
  runShiftRotate (SrgWord.idle r c1 c2) s

/-- CLE of the shift-rotate group, first in its word (R113). -/
def execCleSrg (r : Reg) (c1 : ShiftCode) (sl : Bool) (s2 : Slot) (s : State) : Res State :=
  runShiftRotate (SrgWord.fromCle r c1 sl s2) s

/-- SLA of the shift-rotate group, first in its word (R114). -/
def execSlaSrg (c1 : ShiftCode) (s2 : Slot) (s : State) : Res State :=
  runShiftRotate (SrgWord.fromSl .A c1 s2) s

/-- SLB of the shift-rotate group, first in its word (R114). -/
def execSlbSrg (c1 : ShiftCode) (s2 : Slot) (s : State) : Res State :=
  runShiftRotate (SrgWord.fromSl .B c1 s2) s

/-- ALS in the first position, with the rest of its word (R115). -/
def execAls1 (cle sl : Bool) (s2 : Slot) (s : State) : Res State :=
  runShiftRotate (SrgWord.first .A .ls cle sl s2) s

/-- ALS in the second position, alone in its word (R115). -/
def execAls2 (c1 : ShiftCode) (s : State) : Res State :=
  runShiftRotate (SrgWord.second .A c1 .ls) s

/-- BLS in the first position, with the rest of its word (R115). -/
def execBls1 (cle sl : Bool) (s2 : Slot) (s : State) : Res State :=
  runShiftRotate (SrgWord.first .B .ls cle sl s2) s

/-- BLS in the second position, alone in its word (R115). -/
def execBls2 (c1 : ShiftCode) (s : State) : Res State :=
  runShiftRotate (SrgWord.second .B c1 .ls) s

/-- ARS in the first position, with the rest of its word (R116). -/
def execArs1 (cle sl : Bool) (s2 : Slot) (s : State) : Res State :=
  runShiftRotate (SrgWord.first .A .rs cle sl s2) s

/-- ARS in the second position, alone in its word (R116). -/
def execArs2 (c1 : ShiftCode) (s : State) : Res State :=
  runShiftRotate (SrgWord.second .A c1 .rs) s

/-- BRS in the first position, with the rest of its word (R116). -/
def execBrs1 (cle sl : Bool) (s2 : Slot) (s : State) : Res State :=
  runShiftRotate (SrgWord.first .B .rs cle sl s2) s

/-- BRS in the second position, alone in its word (R116). -/
def execBrs2 (c1 : ShiftCode) (s : State) : Res State :=
  runShiftRotate (SrgWord.second .B c1 .rs) s

/-- RAL in the first position, with the rest of its word (R117). -/
def execRal1 (cle sl : Bool) (s2 : Slot) (s : State) : Res State :=
  runShiftRotate (SrgWord.first .A .rl cle sl s2) s

/-- RAL in the second position, alone in its word (R117). -/
def execRal2 (c1 : ShiftCode) (s : State) : Res State :=
  runShiftRotate (SrgWord.second .A c1 .rl) s

/-- RBL in the first position, with the rest of its word (R117). -/
def execRbl1 (cle sl : Bool) (s2 : Slot) (s : State) : Res State :=
  runShiftRotate (SrgWord.first .B .rl cle sl s2) s

/-- RBL in the second position, alone in its word (R117). -/
def execRbl2 (c1 : ShiftCode) (s : State) : Res State :=
  runShiftRotate (SrgWord.second .B c1 .rl) s

/-- RAR in the first position, with the rest of its word (R118). -/
def execRar1 (cle sl : Bool) (s2 : Slot) (s : State) : Res State :=
  runShiftRotate (SrgWord.first .A .rr cle sl s2) s

/-- RAR in the second position, alone in its word (R118). -/
def execRar2 (c1 : ShiftCode) (s : State) : Res State :=
  runShiftRotate (SrgWord.second .A c1 .rr) s

/-- RBR in the first position, with the rest of its word (R118). -/
def execRbr1 (cle sl : Bool) (s2 : Slot) (s : State) : Res State :=
  runShiftRotate (SrgWord.first .B .rr cle sl s2) s

/-- RBR in the second position, alone in its word (R118). -/
def execRbr2 (c1 : ShiftCode) (s : State) : Res State :=
  runShiftRotate (SrgWord.second .B c1 .rr) s

/-- ALR in the first position, with the rest of its word (R119). -/
def execAlr1 (cle sl : Bool) (s2 : Slot) (s : State) : Res State :=
  runShiftRotate (SrgWord.first .A .lr cle sl s2) s

/-- ALR in the second position, alone in its word (R119). -/
def execAlr2 (c1 : ShiftCode) (s : State) : Res State :=
  runShiftRotate (SrgWord.second .A c1 .lr) s

/-- BLR in the first position, with the rest of its word (R119). -/
def execBlr1 (cle sl : Bool) (s2 : Slot) (s : State) : Res State :=
  runShiftRotate (SrgWord.first .B .lr cle sl s2) s

/-- BLR in the second position, alone in its word (R119). -/
def execBlr2 (c1 : ShiftCode) (s : State) : Res State :=
  runShiftRotate (SrgWord.second .B c1 .lr) s

/-- ERA in the first position, with the rest of its word (R120). -/
def execEra1 (cle sl : Bool) (s2 : Slot) (s : State) : Res State :=
  runShiftRotate (SrgWord.first .A .er cle sl s2) s

/-- ERA in the second position, alone in its word (R120). -/
def execEra2 (c1 : ShiftCode) (s : State) : Res State :=
  runShiftRotate (SrgWord.second .A c1 .er) s

/-- ERB in the first position, with the rest of its word (R120). -/
def execErb1 (cle sl : Bool) (s2 : Slot) (s : State) : Res State :=
  runShiftRotate (SrgWord.first .B .er cle sl s2) s

/-- ERB in the second position, alone in its word (R120). -/
def execErb2 (c1 : ShiftCode) (s : State) : Res State :=
  runShiftRotate (SrgWord.second .B c1 .er) s

/-- ELA in the first position, with the rest of its word (R121). -/
def execEla1 (cle sl : Bool) (s2 : Slot) (s : State) : Res State :=
  runShiftRotate (SrgWord.first .A .el cle sl s2) s

/-- ELA in the second position, alone in its word (R121). -/
def execEla2 (c1 : ShiftCode) (s : State) : Res State :=
  runShiftRotate (SrgWord.second .A c1 .el) s

/-- ELB in the first position, with the rest of its word (R121). -/
def execElb1 (cle sl : Bool) (s2 : Slot) (s : State) : Res State :=
  runShiftRotate (SrgWord.first .B .el cle sl s2) s

/-- ELB in the second position, alone in its word (R121). -/
def execElb2 (c1 : ShiftCode) (s : State) : Res State :=
  runShiftRotate (SrgWord.second .B c1 .el) s

/-- ALF in the first position, with the rest of its word (R122). -/
def execAlf1 (cle sl : Bool) (s2 : Slot) (s : State) : Res State :=
  runShiftRotate (SrgWord.first .A .lf cle sl s2) s

/-- ALF in the second position, alone in its word (R122). -/
def execAlf2 (c1 : ShiftCode) (s : State) : Res State :=
  runShiftRotate (SrgWord.second .A c1 .lf) s

/-- BLF in the first position, with the rest of its word (R122). -/
def execBlf1 (cle sl : Bool) (s2 : Slot) (s : State) : Res State :=
  runShiftRotate (SrgWord.first .B .lf cle sl s2) s

/-- BLF in the second position, alone in its word (R122). -/
def execBlf2 (c1 : ShiftCode) (s : State) : Res State :=
  runShiftRotate (SrgWord.second .B c1 .lf) s

/-- ERA coded in the first position with its enable bit 0 (R123). -/
def execEraDisabled1 (cle sl : Bool) (s2 : Slot) (s : State) : Res State :=
  runShiftRotate (SrgWord.firstOff .A .er cle sl s2) s

/-- ERA coded in the second position with its enable bit 0, alone in its word (R123). -/
def execEraDisabled2 (c1 : ShiftCode) (s : State) : Res State :=
  runShiftRotate (SrgWord.secondOff .A c1 .er) s

/-- ERB coded in the first position with its enable bit 0 (R123). -/
def execErbDisabled1 (cle sl : Bool) (s2 : Slot) (s : State) : Res State :=
  runShiftRotate (SrgWord.firstOff .B .er cle sl s2) s

/-- ERB coded in the second position with its enable bit 0, alone in its word (R123). -/
def execErbDisabled2 (c1 : ShiftCode) (s : State) : Res State :=
  runShiftRotate (SrgWord.secondOff .B c1 .er) s

/-- ELA coded in the first position with its enable bit 0 (R123). -/
def execElaDisabled1 (cle sl : Bool) (s2 : Slot) (s : State) : Res State :=
  runShiftRotate (SrgWord.firstOff .A .el cle sl s2) s

/-- ELA coded in the second position with its enable bit 0, alone in its word (R123). -/
def execElaDisabled2 (c1 : ShiftCode) (s : State) : Res State :=
  runShiftRotate (SrgWord.secondOff .A c1 .el) s

/-- ELB coded in the first position with its enable bit 0 (R123). -/
def execElbDisabled1 (cle sl : Bool) (s2 : Slot) (s : State) : Res State :=
  runShiftRotate (SrgWord.firstOff .B .el cle sl s2) s

/-- ELB coded in the second position with its enable bit 0, alone in its word (R123). -/
def execElbDisabled2 (c1 : ShiftCode) (s : State) : Res State :=
  runShiftRotate (SrgWord.secondOff .B c1 .el) s

end Sys2Proof.Machine
end

