-- ==== Sys2Proof/Machine/Dispatch.lean ====
section
/-! DEFINITION. One arm per constructor of Instr, each one direct call of that instruction's meaning. -/

namespace Sys2Proof.Machine

/-- The meaning of a decoded instruction word. -/
def exec (i : Instr) (s : State) : Host.Outcome State Fault Refusal :=
  match i with
  | .nop => Sys2Proof.Machine.execNop s
  | .noEffectSrg r c1 c2 => Sys2Proof.Machine.execNoEffectSrg r c1 c2 s
  | .cleSrg r c1 sl s2 => Sys2Proof.Machine.execCleSrg r c1 sl s2 s
  | .slaSrg c1 s2 => Sys2Proof.Machine.execSlaSrg c1 s2 s
  | .slbSrg c1 s2 => Sys2Proof.Machine.execSlbSrg c1 s2 s
  | .als1 cle sl s2 => Sys2Proof.Machine.execAls1 cle sl s2 s
  | .als2 c1 => Sys2Proof.Machine.execAls2 c1 s
  | .bls1 cle sl s2 => Sys2Proof.Machine.execBls1 cle sl s2 s
  | .bls2 c1 => Sys2Proof.Machine.execBls2 c1 s
  | .ars1 cle sl s2 => Sys2Proof.Machine.execArs1 cle sl s2 s
  | .ars2 c1 => Sys2Proof.Machine.execArs2 c1 s
  | .brs1 cle sl s2 => Sys2Proof.Machine.execBrs1 cle sl s2 s
  | .brs2 c1 => Sys2Proof.Machine.execBrs2 c1 s
  | .ral1 cle sl s2 => Sys2Proof.Machine.execRal1 cle sl s2 s
  | .ral2 c1 => Sys2Proof.Machine.execRal2 c1 s
  | .rbl1 cle sl s2 => Sys2Proof.Machine.execRbl1 cle sl s2 s
  | .rbl2 c1 => Sys2Proof.Machine.execRbl2 c1 s
  | .rar1 cle sl s2 => Sys2Proof.Machine.execRar1 cle sl s2 s
  | .rar2 c1 => Sys2Proof.Machine.execRar2 c1 s
  | .rbr1 cle sl s2 => Sys2Proof.Machine.execRbr1 cle sl s2 s
  | .rbr2 c1 => Sys2Proof.Machine.execRbr2 c1 s
  | .alr1 cle sl s2 => Sys2Proof.Machine.execAlr1 cle sl s2 s
  | .alr2 c1 => Sys2Proof.Machine.execAlr2 c1 s
  | .blr1 cle sl s2 => Sys2Proof.Machine.execBlr1 cle sl s2 s
  | .blr2 c1 => Sys2Proof.Machine.execBlr2 c1 s
  | .era1 cle sl s2 => Sys2Proof.Machine.execEra1 cle sl s2 s
  | .era2 c1 => Sys2Proof.Machine.execEra2 c1 s
  | .erb1 cle sl s2 => Sys2Proof.Machine.execErb1 cle sl s2 s
  | .erb2 c1 => Sys2Proof.Machine.execErb2 c1 s
  | .ela1 cle sl s2 => Sys2Proof.Machine.execEla1 cle sl s2 s
  | .ela2 c1 => Sys2Proof.Machine.execEla2 c1 s
  | .elb1 cle sl s2 => Sys2Proof.Machine.execElb1 cle sl s2 s
  | .elb2 c1 => Sys2Proof.Machine.execElb2 c1 s
  | .alf1 cle sl s2 => Sys2Proof.Machine.execAlf1 cle sl s2 s
  | .alf2 c1 => Sys2Proof.Machine.execAlf2 c1 s
  | .blf1 cle sl s2 => Sys2Proof.Machine.execBlf1 cle sl s2 s
  | .blf2 c1 => Sys2Proof.Machine.execBlf2 c1 s
  | .eraDisabled1 cle sl s2 => Sys2Proof.Machine.execEraDisabled1 cle sl s2 s
  | .eraDisabled2 c1 => Sys2Proof.Machine.execEraDisabled2 c1 s
  | .erbDisabled1 cle sl s2 => Sys2Proof.Machine.execErbDisabled1 cle sl s2 s
  | .erbDisabled2 c1 => Sys2Proof.Machine.execErbDisabled2 c1 s
  | .elaDisabled1 cle sl s2 => Sys2Proof.Machine.execElaDisabled1 cle sl s2 s
  | .elaDisabled2 c1 => Sys2Proof.Machine.execElaDisabled2 c1 s
  | .elbDisabled1 cle sl s2 => Sys2Proof.Machine.execElbDisabled1 cle sl s2 s
  | .elbDisabled2 c1 => Sys2Proof.Machine.execElbDisabled2 c1 s
  | .noEffectAsg r => Sys2Proof.Machine.execNoEffectAsg r s
  | .cla sez eop ss sl inc sz rss => Sys2Proof.Machine.execCla sez eop ss sl inc sz rss s
  | .clb sez eop ss sl inc sz rss => Sys2Proof.Machine.execClb sez eop ss sl inc sz rss s
  | .cma sez eop ss sl inc sz rss => Sys2Proof.Machine.execCma sez eop ss sl inc sz rss s
  | .cmb sez eop ss sl inc sz rss => Sys2Proof.Machine.execCmb sez eop ss sl inc sz rss s
  | .cca sez eop ss sl inc sz rss => Sys2Proof.Machine.execCca sez eop ss sl inc sz rss s
  | .ccb sez eop ss sl inc sz rss => Sys2Proof.Machine.execCcb sez eop ss sl inc sz rss s
  | .sez r eop ss sl inc sz rss => Sys2Proof.Machine.execSez r eop ss sl inc sz rss s
  | .cleAsg r ss sl inc sz rss => Sys2Proof.Machine.execCleAsg r ss sl inc sz rss s
  | .cme r ss sl inc sz rss => Sys2Proof.Machine.execCme r ss sl inc sz rss s
  | .cce r ss sl inc sz rss => Sys2Proof.Machine.execCce r ss sl inc sz rss s
  | .ssa sl inc sz rss => Sys2Proof.Machine.execSsa sl inc sz rss s
  | .ssb sl inc sz rss => Sys2Proof.Machine.execSsb sl inc sz rss s
  | .slaAsg inc sz rss => Sys2Proof.Machine.execSlaAsg inc sz rss s
  | .slbAsg inc sz rss => Sys2Proof.Machine.execSlbAsg inc sz rss s
  | .ina sz rss => Sys2Proof.Machine.execIna sz rss s
  | .inb sz rss => Sys2Proof.Machine.execInb sz rss s
  | .sza rss => Sys2Proof.Machine.execSza rss s
  | .szb rss => Sys2Proof.Machine.execSzb rss s
  | .rss r => Sys2Proof.Machine.execRss r s
  | .hlt f sc => Sys2Proof.Machine.execHlt f sc s
  | .stf sc => Sys2Proof.Machine.execStf sc s
  | .clf sc => Sys2Proof.Machine.execClf sc s
  | .sfc f sc => Sys2Proof.Machine.execSfc f sc s
  | .sfs f sc => Sys2Proof.Machine.execSfs f sc s
  | .mia f sc => Sys2Proof.Machine.execMia f sc s
  | .mib f sc => Sys2Proof.Machine.execMib f sc s
  | .lia f sc => Sys2Proof.Machine.execLia f sc s
  | .lib f sc => Sys2Proof.Machine.execLib f sc s
  | .ota f sc => Sys2Proof.Machine.execOta f sc s
  | .otb f sc => Sys2Proof.Machine.execOtb f sc s
  | .stc f sc => Sys2Proof.Machine.execStc f sc s
  | .clc f sc => Sys2Proof.Machine.execClc f sc s
  | .sto => Sys2Proof.Machine.execSto s
  | .clo => Sys2Proof.Machine.execClo s
  | .sos f => Sys2Proof.Machine.execSos f s
  | .soc f => Sys2Proof.Machine.execSoc f s
  | .and x => Sys2Proof.Machine.execAnd x s
  | .jsb x => Sys2Proof.Machine.execJsb x s
  | .xor x => Sys2Proof.Machine.execXor x s
  | .jmp x => Sys2Proof.Machine.execJmp x s
  | .ior x => Sys2Proof.Machine.execIor x s
  | .isz x => Sys2Proof.Machine.execIsz x s
  | .ada x => Sys2Proof.Machine.execAda x s
  | .adb x => Sys2Proof.Machine.execAdb x s
  | .cpa x => Sys2Proof.Machine.execCpa x s
  | .cpb x => Sys2Proof.Machine.execCpb x s
  | .lda x => Sys2Proof.Machine.execLda x s
  | .ldb x => Sys2Proof.Machine.execLdb x s
  | .sta x => Sys2Proof.Machine.execSta x s
  | .stb x => Sys2Proof.Machine.execStb x s

end Sys2Proof.Machine
end

