-- ==== Sys2Proof/Machine/Fetch.lean ====
section
/-! DEFINITION. The fetch of R14: from the interrupt location of the channel whose interrupt is taken, or from P. -/

namespace Sys2Proof.Machine

/-- Where the next instruction word is fetched from (R14, R246). -/
def fetchAddr (s : State) : Addr :=
  match s.pendingInterrupt with
  | some c => c.setWidth 15
  | none => s.p

/-- The state in which the fetched word is executed (R14): an interrupt is taken and P stays, or P has advanced past
the word. -/
def fetched (s : State) : State :=
  match s.pendingInterrupt with
  | some c => takeInterrupt c s
  | none => (s.setFa s.p).setP (s.p + 1)

/-- The fetched instruction word. -/
def fetchWord (s : State) : Res Word := memRead s (fetchAddr s)

/-- Decode a fetched word; an unlisted one is refused (R92). -/
def decodeFetched (w : Word) : Res Instr :=
  match decode w with
  | .ok i => .next i
  | .error .unlisted => .refused (.unlisted w)

/-- Put a word where a fetch at `a` finds it (R55). -/
def pokeWord (s : State) (a : Addr) (v : Word) : State :=
  if a = 0 then s.setReg .A v else if a = 1 then s.setReg .B v else s.setMem (s.mem.setWord a v)

end Sys2Proof.Machine
end

