-- ==== Sys2Proof/Machine/Step.lean ====
section
/-! DEFINITION. One step of the processor (R14), and the placing of a word where the next step fetches it. -/

namespace Sys2Proof.Machine

/-- One step: a halted processor takes none (R33). Otherwise the agents act (R61, R193), then an interrupt is taken or
P advances, and the fetched word is executed (R14, R246). -/
def step (s : State) : Host.Outcome State Fault Refusal :=
  if s.run then
    let s1 := agentsAct s
    andThen (fetchWord s1) fun w => andThen (decodeFetched w) fun i => exec i (fetched s1)
  else .fault .halted

/-- `s` with the table row's word placed where the next step fetches, and running. The host's loading of a program
stands behind it (log entry 14). -/
def State.withFetchWord (s : State) (nbits w : Nat) : State :=
  (pokeWord s (fetchAddr (agentsAct s)) (tableWord nbits w)).setRun true

end Sys2Proof.Machine
end

