-- ==== Sys2Proof/Safety.lean ====
section
/-! DEFINITION. The terms claims use: which addresses exist, the invariant of the state, a run that never stops by the
model's own fault or refusal. -/

namespace Sys2Proof.Machine

/-- An access to this address is not refused (R55, R67). -/
def State.hasAddr (s : State) (a : Addr) : Prop := a = 0 ∨ a = 1 ∨ a.toNat < s.cfg.memWords

/-- What holds of every state a run can reach from a state where it holds. -/
structure State.Inv (s : State) : Prop where
  /-- `MEM_WORDS` is a size the spec admits (R67). -/
  memSize : 2 ≤ s.cfg.memWords ∧ s.cfg.memWords ≤ 32768
  /-- The memory list is in canonical form: the model's own layout (log entry 11, DESIGN CHOICE). -/
  memCanonical : s.mem.wf = true
  /-- No cell is listed for locations 0 and 1, which are A and B (R25, R26; decision D11, log entry 33), or above the
  installed memory (R67). -/
  memInstalled : ∀ k v, (k, v) ∈ s.mem → 4 ≤ k ∧ k < 2 * s.cfg.memWords
  /-- Interfaces are installed at 10 to 77 only (R28, R171). -/
  lowSlotsEmpty : ∀ sc : SelectCode, sc.toNat < 8 → s.iface sc = none
  /-- A held priority level has flag and control bit set (R245, R250). DESIGN CHOICE, unsafe: the marks are decision D18
  (log entry 38), and that clearing either bit clears the mark is decision D21 (log entry 39). -/
  ackHeld : ∀ sc d, s.iface sc = some d → d.ack = true → d.flag = true ∧ d.ctl = true

/-- `k` steps from `s` end in a state: none of them faults or is refused. -/
def safeRun (k : Nat) (s : State) : Prop := ∃ t : State, Host.Core.run Sys2Proof.core k s = .next t

end Sys2Proof.Machine
end

