-- ==== Sys2Proof/Certificates/Slice0/Obligations.lean ====
section
/-! DEFINITION. The statements for the provers. -/

namespace Sys2Proof.Statement

open Sys2Proof.Machine

/-- The shifts of R111 by masks, shifts and rotates of whole words. -/
def shiftByMask (c : ShiftCode) (t : Word) (e : Bool) : Word :=
  match c with
  | .ls => (t &&& 0o100000) ||| ((t <<< 1) &&& 0o077776)
  | .rs => (t &&& 0o100000) ||| (t >>> 1)
  | .rl => t.rotateLeft 1
  | .rr => t.rotateRight 1
  | .lr => (t <<< 1) &&& 0o077776
  | .er => (t >>> 1) ||| (if e then 0o100000 else 0)
  | .el => (t <<< 1) ||| (if e then 1 else 0)
  | .lf => t.rotateLeft 4

/-- The new E of R111 and R123, the same whether the position is enabled or not. -/
def slotE (c : ShiftCode) (t : Word) (e : Bool) : Bool :=
  match c with
  | .er => t.getLsbD 0
  | .el => t.getLsbD 15
  | .ls | .rs | .rl | .rr | .lr | .lf => e

/-- The register value of a shift position (R111). -/
def slotValue (p : Slot) (t : Word) (e : Bool) : Word := if p.en then shiftByMask p.code t e else t

/-- The state after a shift-rotate word (R110), P being already advanced by the fetch. -/
def afterSrg (s : State) (r : Reg) (s1 : Slot) (cle sl : Bool) (s2 : Slot) : State :=
  let t0 := match r with | .A => s.a | .B => s.b
  let t1 := slotValue s1 t0 s.e
  let e1 := slotE s1.code t0 s.e && !cle
  let t2 := slotValue s2 t1 e1
  { s with
    a := match r with | .A => t2 | .B => s.a
    b := match r with | .A => s.b | .B => t2
    e := slotE s2.code t1 e1
    p := if sl = true ∧ t1.getLsbD 0 = false then s.p + 1 else s.p }

/-- The register after column 1 of an alter-skip word (R140). -/
def altered (op : AlterOp) (t : Word) : Word :=
  match op with
  | .none => t
  | .clear => 0
  | .complement => 0o177777 - t
  | .clearComplement => 0o177777

/-- E after column 3 of an alter-skip word (R140). -/
def alteredE (op : AlterOp) (e : Bool) : Bool :=
  match op with
  | .none => e
  | .clear => false
  | .complement => e.not
  | .clearComplement => true

/-- Whether an alter-skip word skips (R141, R142): `e` before column 3, `t` where SSr and SLr test, `u` where SZr
tests. -/
def alterSkips (w : AsgWord) (e : Bool) (t u : Word) : Prop :=
  if w.rss = false then
    (w.sez = true ∧ e = false) ∨ (w.ss = true ∧ 0 ≤ t.toInt) ∨ (w.sl = true ∧ t.toNat % 2 = 0) ∨ (w.sz = true ∧ u = 0)
  else if w.sez = false ∧ w.ss = false ∧ w.sl = false ∧ w.sz = false then True
  else if w.ss = true ∧ w.sl = true then
    (w.sez = true ∧ e = true) ∨ (t.toInt < 0 ∧ t.toNat % 2 = 1) ∨ (w.sz = true ∧ u ≠ 0)
  else
    (w.sez = true ∧ e = true) ∨ (w.ss = true ∧ t.toInt < 0) ∨ (w.sl = true ∧ t.toNat % 2 = 1) ∨ (w.sz = true ∧ u ≠ 0)

/-- `i` runs as the alter-skip word `w` of R140: it completes, and the next state is the one the rule gives. -/
def runsAsAsg (i : Instr) (w : AsgWord) : Prop :=
  ∀ s : State,
    let t0 := match w.r with | .A => s.a | .B => s.b
    let t := altered w.rop t0
    let u := if w.inc then t + 1 else t
    ∃ p' : Addr,
      ((alterSkips w s.e t u → p' = s.p + 1) ∧ (¬ alterSkips w s.e t u → p' = s.p)) ∧
      exec i s = .next
        { s with
          a := match w.r with | .A => u | .B => s.a
          b := match w.r with | .A => s.b | .B => u
          e := if w.inc = true ∧ t = 0o177777 then true else alteredE w.eop s.e
          o := if w.inc = true ∧ t = 0o077777 then true else s.o
          p := p' }

/-- A shift-rotate word writes E (R21): CLE in it, or a rotate-with-E code in either position, enabled or not. -/
def tailWritesE (cle : Bool) (s2 : Slot) : Prop := cle = true ∨ s2.code = .er ∨ s2.code = .el

/-- The instructions that may change E (R21). -/
def mayWriteE : Instr → Prop
  | .cleSrg .. => True
  | .slaSrg _ s2 | .slbSrg _ s2 => tailWritesE false s2
  | .als1 cle _ s2 | .bls1 cle _ s2 | .ars1 cle _ s2 | .brs1 cle _ s2 | .ral1 cle _ s2 | .rbl1 cle _ s2
  | .rar1 cle _ s2 | .rbr1 cle _ s2 | .alr1 cle _ s2 | .blr1 cle _ s2 | .alf1 cle _ s2 | .blf1 cle _ s2 =>
    tailWritesE cle s2
  | .era1 .. | .erb1 .. | .ela1 .. | .elb1 .. | .eraDisabled1 .. | .erbDisabled1 .. | .elaDisabled1 ..
  | .elbDisabled1 .. | .era2 .. | .erb2 .. | .ela2 .. | .elb2 .. | .eraDisabled2 .. | .erbDisabled2 ..
  | .elaDisabled2 .. | .elbDisabled2 .. => True
  | .cla _ eop _ _ inc _ _ | .clb _ eop _ _ inc _ _ | .cma _ eop _ _ inc _ _ | .cmb _ eop _ _ inc _ _
  | .cca _ eop _ _ inc _ _ | .ccb _ eop _ _ inc _ _ | .sez _ eop _ _ inc _ _ => eop ≠ .none ∨ inc = true
  | .cleAsg .. | .cme .. | .cce .. | .ina .. | .inb .. => True
  | .ssa _ inc _ _ | .ssb _ inc _ _ | .slaAsg inc _ _ | .slbAsg inc _ _ => inc = true
  | .ada _ | .adb _ => True
  | _ => False

/-- The instructions that may change O (R22). -/
def mayWriteO : Instr → Prop
  | .cla _ _ _ _ inc _ _ | .clb _ _ _ _ inc _ _ | .cma _ _ _ _ inc _ _ | .cmb _ _ _ _ inc _ _
  | .cca _ _ _ _ inc _ _ | .ccb _ _ _ _ inc _ _ | .sez _ _ _ _ inc _ _ => inc = true
  | .cleAsg _ _ _ inc _ _ | .cme _ _ _ inc _ _ | .cce _ _ _ inc _ _ => inc = true
  | .ssa _ inc _ _ | .ssb _ inc _ _ | .slaAsg inc _ _ | .slbAsg inc _ _ => inc = true
  | .ina .. | .inb .. | .ada _ | .adb _ | .sto | .clo => True
  | .sos f | .soc f => f = true
  | .hlt f sc | .mia f sc | .mib f sc | .lia f sc | .lib f sc | .ota f sc | .otb f sc | .stc f sc | .clc f sc =>
    f = true ∧ sc = 1
  | _ => False

/-- The instructions that may clear O (R22, R183). -/
def mayClearO : Instr → Prop
  | .clo => True
  | .sos f | .soc f => f = true
  | .hlt f sc | .mia f sc | .mib f sc | .lia f sc | .lib f sc | .ota f sc | .otb f sc | .stc f sc | .clc f sc =>
    f = true ∧ sc = 1
  | _ => False

/-- The instructions that may change IEN (R27). -/
def mayWriteIen : Instr → Prop
  | .stf sc | .clf sc => sc = 0
  | .hlt f sc | .sfc f sc | .sfs f sc | .mia f sc | .mib f sc | .lia f sc | .lib f sc | .ota f sc | .otb f sc
  | .stc f sc | .clc f sc => f = true ∧ sc = 0
  | _ => False

/-- The instructions that store to memory (R36). -/
def stores : Instr → Prop
  | .sta _ | .stb _ | .isz _ | .jsb _ => True
  | _ => False

/-- `t` is `s` with `v` written at address `m` (R55) and nothing else changed, P apart: at 0 and 1 the register,
elsewhere the word, whose two byte cells are the only ones that change. -/
def storedAt (s t : State) (m : Addr) (v : Word) : Prop :=
  t = { s with a := t.a, b := t.b, mem := t.mem, p := t.p } ∧
  t.a = (if m = 0 then v else s.a) ∧
  t.b = (if m = 1 then v else s.b) ∧
  (m = 0 ∨ m = 1 → t.mem = s.mem) ∧
  (m ≠ 0 → m ≠ 1 → t.mem.wordAt m = v) ∧
  (∀ k, k ≠ 2 * m.toNat → k ≠ 2 * m.toNat + 1 → t.mem.byteAt k = s.mem.byteAt k)

/-- The words whose bits 14:11 are `op` decode to `k` of their fields `i`, `p` and `m` (R82, R83). -/
def mrgEncoding (op : BitVec 4) (k : MemRef → Instr) : Prop :=
  ∀ (i p : Bool) (m : BitVec 10), decode (BitVec.ofBool i ++ op ++ BitVec.ofBool p ++ m) = .ok (k ⟨i, p, m⟩)

/-- The chain of indirect address words from `a` (R58): the address read at level `n`, as long as every word before it
could be read and asked for a further level. -/
def chainAddr (s : State) (a : Addr) : Nat → Option Addr
  | 0 => some a
  | n + 1 =>
    match chainAddr s a n with
    | none => none
    | some b =>
      match memRead s b with
      | .next w => if w.getLsbD 15 then some (w.setWidth 15) else none
      | .fault _ => none
      | .refused _ => none

/-- Run one micro-instruction word `n` times. -/
def repeatExec (i : Instr) : Nat → State → Host.Outcome State Fault Refusal
  | 0, s => .next s
  | n + 1, s => andThen (exec i s) (repeatExec i n)

/-- The second position is empty (code 000, not enabled). -/
def noSlot : Slot := ⟨false, .ls⟩

/-- Every input/output form on a DMA control channel, 02 or 03 (R196, R199): `c` its registers in the board, `put` the
state with other registers there. The flag is the completion flag, the control bit the select bit; bits 15:14 of the
length read as 0. -/
def dmaControlForms (sc : SelectCode) (s : State) (c : DmaChannel) (put : DmaChannel → State) (f : Bool) : Prop :=
  let k (d : DmaChannel) : DmaChannel := if f then { d with complete := false } else d
  let load (v : Word) : DmaChannel := if c.selLength then { c with length := v.setWidth 14 } else { c with addr := v }
  exec (.stf sc) s = .next (put { c with complete := true }) ∧
  exec (.clf sc) s = .next (put { c with complete := false }) ∧
  exec (.sfs false sc) s = .next { s with p := if c.complete then s.p + 1 else s.p } ∧
  exec (.sfc false sc) s = .next { s with p := if c.complete then s.p else s.p + 1 } ∧
  (s.cfg.sfxClearForm = .testThenClear →
    exec (.sfs true sc) s =
      .next { put { c with complete := false } with p := if c.complete then s.p + 1 else s.p } ∧
    exec (.sfc true sc) s =
      .next { put { c with complete := false } with p := if c.complete then s.p else s.p + 1 }) ∧
  exec (.stc f sc) s = .next (put (k { c with selLength := true })) ∧
  exec (.clc f sc) s = .next (put (k { c with selLength := false })) ∧
  exec (.ota f sc) s = .next (put (k (load s.a))) ∧
  exec (.otb f sc) s = .next (put (k (load s.b))) ∧
  exec (.lia f sc) s = .next { put (k c) with a := c.length.setWidth 16 } ∧
  exec (.lib f sc) s = .next { put (k c) with b := c.length.setWidth 16 } ∧
  exec (.mia f sc) s = .next { put (k c) with a := s.a ||| c.length.setWidth 16 } ∧
  exec (.mib f sc) s = .next { put (k c) with b := s.b ||| c.length.setWidth 16 } ∧
  exec (.hlt f sc) s = .next { put (k c) with run := false }

/-- Every input/output form on a DMA channel, 06 or 07 (R197, R200): the flag is the abort bit, the control bit the
start bit; STC, which would start a transfer, is refused, and there is no input register. -/
def dmaDeviceForms (sc : SelectCode) (s : State) (c : DmaChannel) (put : DmaChannel → State) (f : Bool) : Prop :=
  let k (d : DmaChannel) : DmaChannel := if f then { d with abort := false } else d
  exec (.stf sc) s = .next (put { c with abort := true }) ∧
  exec (.clf sc) s = .next (put { c with abort := false }) ∧
  exec (.sfs false sc) s = .next { s with p := if c.abort then s.p + 1 else s.p } ∧
  exec (.sfc false sc) s = .next { s with p := if c.abort then s.p else s.p + 1 } ∧
  (s.cfg.sfxClearForm = .testThenClear →
    exec (.sfs true sc) s = .next { put { c with abort := false } with p := if c.abort then s.p + 1 else s.p } ∧
    exec (.sfc true sc) s = .next { put { c with abort := false } with p := if c.abort then s.p else s.p + 1 }) ∧
  exec (.clc f sc) s = .next (put (k { c with start := false })) ∧
  exec (.ota f sc) s = .next (put (k { c with devOpt := s.a })) ∧
  exec (.otb f sc) s = .next (put (k { c with devOpt := s.b })) ∧
  exec (.hlt f sc) s = .next { put (k c) with run := false } ∧
  exec (.stc f sc) s = .refused (.dmaTransfer sc) ∧
  exec (.lia f sc) s = .refused (.noChannelFunction sc) ∧ exec (.lib f sc) s = .refused (.noChannelFunction sc) ∧
  exec (.mia f sc) s = .refused (.noChannelFunction sc) ∧ exec (.mib f sc) s = .refused (.noChannelFunction sc)

/-- Every input/output form on 05 with the memory protect and the parity board installed (R201): `put` the state with
other protect registers there, the parity interrupt's enable cleared where `f` asks for it. -/
def guardBothForms (s : State) (e : Word) (p : ProtectRegs) (q : ParityRegs) (f : Bool) : Prop :=
  let put (p' : ProtectRegs) : State := { s with guard := some ⟨.both p' ⟨q.enable && !f⟩, e⟩ }
  exec (.stf 5) s = .next { s with guard := some ⟨.both p ⟨true⟩, e⟩ } ∧
  exec (.clf 5) s = .next { s with guard := some ⟨.both p ⟨false⟩, e⟩ } ∧
  exec (.sfs false 5) s = .next { s with p := if q.enable then s.p + 1 else s.p } ∧
  exec (.sfc false 5) s = .next { s with p := if q.enable then s.p else s.p + 1 } ∧
  (s.cfg.sfxClearForm = .testThenClear →
    exec (.sfs true 5) s =
      .next { s with guard := some ⟨.both p ⟨false⟩, e⟩, p := if q.enable then s.p + 1 else s.p } ∧
    exec (.sfc true 5) s =
      .next { s with guard := some ⟨.both p ⟨false⟩, e⟩, p := if q.enable then s.p else s.p + 1 }) ∧
  exec (.stc f 5) s = .next (put { p with enable := true }) ∧
  exec (.clc f 5) s = .next (put { p with enable := false }) ∧
  exec (.ota f 5) s = .next (put { p with upper := s.a }) ∧
  exec (.otb f 5) s = .next (put { p with upper := s.b }) ∧
  exec (.lia f 5) s = .next { put p with a := e } ∧
  exec (.lib f 5) s = .next { put p with b := e } ∧
  exec (.mia f 5) s = .next { put p with a := s.a ||| e } ∧
  exec (.mib f 5) s = .next { put p with b := s.b ||| e } ∧
  exec (.hlt f 5) s = .next { put p with run := false }

/-- Every input/output form on 05 with the memory protect board alone: there is no parity interrupt enable (R34), so its
functions, the clear that `f` asks for among them, are refused. -/
def guardProtectForms (s : State) (e : Word) (p : ProtectRegs) : Prop :=
  let put (p' : ProtectRegs) : State := { s with guard := some ⟨.protect p', e⟩ }
  exec (.stc false 5) s = .next (put { p with enable := true }) ∧
  exec (.clc false 5) s = .next (put { p with enable := false }) ∧
  exec (.ota false 5) s = .next (put { p with upper := s.a }) ∧
  exec (.otb false 5) s = .next (put { p with upper := s.b }) ∧
  exec (.lia false 5) s = .next { s with a := e } ∧
  exec (.lib false 5) s = .next { s with b := e } ∧
  exec (.mia false 5) s = .next { s with a := s.a ||| e } ∧
  exec (.mib false 5) s = .next { s with b := s.b ||| e } ∧
  exec (.hlt false 5) s = .next { s with run := false } ∧
  (s.cfg.sfxClearForm = .testThenClear →
    exec (.sfs true 5) s = .refused (.noChannelFunction 5) ∧
    exec (.sfc true 5) s = .refused (.noChannelFunction 5)) ∧
  ∀ i : Instr, (i = .stf 5 ∨ i = .clf 5 ∨ i = .sfs false 5 ∨ i = .sfc false 5 ∨ i = .stc true 5 ∨ i = .clc true 5 ∨
    i = .ota true 5 ∨ i = .otb true 5 ∨ i = .lia true 5 ∨ i = .lib true 5 ∨ i = .mia true 5 ∨ i = .mib true 5 ∨
    i = .hlt true 5) → exec i s = .refused (.noChannelFunction 5)

/-- Every input/output form on 05 with the parity board alone: there is no protect register (R34), so STC, CLC and OTr
are refused. -/
def guardParityForms (s : State) (e : Word) (q : ParityRegs) (f : Bool) : Prop :=
  let cleared : State := { s with guard := some ⟨.parity ⟨q.enable && !f⟩, e⟩ }
  exec (.stf 5) s = .next { s with guard := some ⟨.parity ⟨true⟩, e⟩ } ∧
  exec (.clf 5) s = .next { s with guard := some ⟨.parity ⟨false⟩, e⟩ } ∧
  exec (.sfs false 5) s = .next { s with p := if q.enable then s.p + 1 else s.p } ∧
  exec (.sfc false 5) s = .next { s with p := if q.enable then s.p else s.p + 1 } ∧
  (s.cfg.sfxClearForm = .testThenClear →
    exec (.sfs true 5) s =
      .next { s with guard := some ⟨.parity ⟨false⟩, e⟩, p := if q.enable then s.p + 1 else s.p } ∧
    exec (.sfc true 5) s =
      .next { s with guard := some ⟨.parity ⟨false⟩, e⟩, p := if q.enable then s.p else s.p + 1 }) ∧
  exec (.lia f 5) s = .next { cleared with a := e } ∧
  exec (.lib f 5) s = .next { cleared with b := e } ∧
  exec (.mia f 5) s = .next { cleared with a := s.a ||| e } ∧
  exec (.mib f 5) s = .next { cleared with b := s.b ||| e } ∧
  exec (.hlt f 5) s = .next { cleared with run := false } ∧
  ∀ i : Instr, (i = .stc f 5 ∨ i = .clc f 5 ∨ i = .ota f 5 ∨ i = .otb f 5) →
    exec i s = .refused (.noChannelFunction 5)

/-- What an action of a device agent or of the operator may change (R193, R30): the flag or the input register of the
agent's own interface, where one is installed, or S. -/
def agentEffect (s : State) : AgentAction → State → Prop
  | .setFlag c, t =>
    t = { s with slots := t.slots } ∧
    ∀ k, t.iface k = if k = c then (s.iface c).map (fun d => { d with flag := true }) else s.iface k
  | .writeIbuf c v, t =>
    t = { s with slots := t.slots } ∧
    ∀ k, t.iface k = if k = c then (s.iface c).map (fun d => { d with ibuf := v }) else s.iface k
  | .setSwitches v, t => t = { s with sreg := v }

end Sys2Proof.Statement

open Sys2Proof Sys2Proof.Machine Sys2Proof.Statement

/-! ## Decoding and encoding -/

/-- Words written out from the encoding tables (R83, R85, R86, R88, R90) decode to the micro-instructions and
instructions they stand for (R99). Which constructor stands for a combined or disabled shift-rotate or alter-skip word
is the model's choice (log entry 26, DESIGN CHOICE); that bit 11 of STF is dropped and that SFS on select code 01 is the
constructor of SOS follow R90 and R98 (log entries 28, 27, DEDUCED). -/
def Obligations.WrittenWordsDecode : Prop :=
  decode 0b0000000000000000 = .ok .nop ∧
  decode 0b0000001010111010 = .ok (.ral1 true true ⟨true, .rl⟩) ∧
  decode 0b0000100000000110 = .ok (.elbDisabled2 .ls) ∧
  decode 0b0000011111111111 = .ok (.cca true .clearComplement true true true true true) ∧
  decode 0b0000110000001000 = .ok (.slbAsg false false false) ∧
  decode 0b1000010001001000 = .ok (.stf 0o10) ∧
  decode 0b1000110001001000 = .ok (.stf 0o10) ∧
  decode 0b1000011011000001 = .ok (.sos true) ∧
  decode 0b1000111111001000 = .ok (.clc true 0o10) ∧
  decode 0b1000010101000100 = .ok (.lia false 0o4) ∧
  decode 0b1110000001000000 = .ok (.lda ⟨true, false, 0o100⟩) ∧
  decode 0b0010110000000010 = .ok (.jmp ⟨false, true, 0o2⟩) ∧
  decode 0b0111111111111111 = .ok (.stb ⟨false, true, 0o1777⟩)

/-- Every well-formed instruction, with every operand value its encoding admits, is read back from its word: no bit of
an encoding is dropped. Which constructor stands for a combined word is the model's choice (log entry 26). -/
def Obligations.DecodeAfterEncode : Prop := ∀ i : Instr, i.wf = true → decode (encode i) = .ok i

/-- Every word the decoder accepts is the word of a well-formed instruction, bit for bit, but for bit 11 of HLT, STF,
CLF, SFC and SFS, the input/output words with bits 8:6 = 000 to 011, in which it does not matter (R87, R88, R90; log
entry 28). Which constructor stands for a combined word is the model's choice (log entry 26). -/
def Obligations.EncodeAfterDecode : Prop :=
  ∀ (w : Word) (i : Instr), decode w = .ok i →
    i.wf = true ∧ (encode i = w ∨ (w.toNat / 4096 = 8 ∧ w.toNat / 64 % 8 < 4 ∧ encode i = w &&& 0o173777))

/-- Exactly the words with bits 15:12 = 1000 and bit 10 = 0 are rejected (R92; the rejection is decision D12, log entry
18). -/
def Obligations.UnlistedWordsExactly : Prop :=
  ∀ w : Word, decode w = .error .unlisted ↔ w.toNat / 4096 = 8 ∧ w.toNat / 1024 % 2 = 0

/-! ## The step -/

/-- A step runs the decoded instruction (R14): with no interrupt to take, the word at P, with `fa` the address it came
from and P already advanced past it; that a normal fetch advances P before execution is decision D6 (log entry 34, the
model's choice). The agents act first, by the first list of the agenda (D23, D37; log entry 13, the model's choice): a
device agent sets the flag or writes the input register of its own interface, the operator writes S, and nothing else
changes (R193, R30); with an empty agenda nothing does. -/
def Obligations.StepRunsDecodedInstruction : Prop :=
  ∀ (s u : State) (w : Word) (i : Instr),
    s.run = true → u = agentsAct s → u.pendingInterrupt = none → memRead u u.p = .next w → decode w = .ok i →
      step s = exec i { u with fa := u.p, p := u.p + 1 } ∧
      (s.agenda = [] → u = s) ∧
      (∀ acts rest, s.agenda = acts :: rest → u = { acts.foldl agentAct s with agenda := rest }) ∧
      ∀ (v : State) (x : AgentAction), agentEffect v x (agentAct v x)

/-- Taking the interrupt of channel `c` (R247): CIR and ACK[c] are written, the word at location `c` is executed with
`fa = c`, and P and everything else are as the interrupted program left them. The mark ACK and `fa = c` are decisions
D18 and D20 (log entry 38, PRESUMED): the model's choice. -/
def Obligations.StepTakesInterrupt : Prop :=
  ∀ (s u v : State) (c : SelectCode) (w : Word) (i : Instr) (d : Interface),
    s.run = true → u = agentsAct s → u.pendingInterrupt = some c → u.iface c = some d →
    memRead u (c.setWidth 15) = .next w → decode w = .ok i →
    v = { u with cir := c, fa := c.setWidth 15, slots := v.slots } → v.iface c = some { d with ack := true } →
    (∀ k, k ≠ c → v.iface k = u.iface k) → step s = exec i v

/-- What stops a step without an instruction: a halted processor (R33), an unlisted word (R92), a fetch where no memory
is installed (R67). That they are a fault and two refusals is the model's choice (log entries 15, 18 and 17; D12, D2).
-/
def Obligations.StepStops : Prop :=
  (∀ s : State, s.run = false → step s = .fault .halted) ∧
  (∀ (s : State) (w : Word), s.run = true → fetchWord (agentsAct s) = .next w → decode w = .error .unlisted →
    step s = .refused (.unlisted w)) ∧
  (∀ s : State, s.run = true → ¬ (agentsAct s).hasAddr (fetchAddr (agentsAct s)) →
    step s = .refused (.memoryNotInstalled (fetchAddr (agentsAct s))))

/-! ## Interrupts -/

/-- The interrupt taken at a boundary (R246): with IEN set, the lowest select code with an interface whose flag and
control are both set, if that channel is not acknowledged. The request condition and that nothing holds an interrupt off
are decisions D18 and D19 from general knowledge G3 (log entry 38, PRESUMED); that 04 to 07 never request, even with a
board installed, is the model's choice (log entries 24, 25). -/
def Obligations.InterruptTakenExactlyWhen : Prop :=
  ∀ (s : State) (c : SelectCode),
    s.pendingInterrupt = some c ↔
      s.ien = true ∧ 8 ≤ c.toNat ∧
      (∃ d, s.iface c = some d ∧ d.flag = true ∧ d.ctl = true ∧ d.ack = false) ∧
      (∀ k d, 8 ≤ k.toNat → k.toNat < c.toNat → s.iface k = some d → ¬ (d.flag = true ∧ d.ctl = true))

/-- While a level is held (ACK, FLAG and CTL of `c` set), only a channel of lower select code can interrupt (R244,
R245). The request condition and the marks ACK are decision D18 (log entry 38, PRESUMED): the model's choice. -/
def Obligations.HeldLevelBlocksLowerPriority : Prop :=
  ∀ (s : State) (c c' : SelectCode) (d : Interface),
    8 ≤ c.toNat → s.iface c = some d → d.ack = true → d.flag = true → d.ctl = true →
    s.pendingInterrupt = some c' → c'.toNat < c.toNat

/-- With IEN clear no interrupt is taken, and the next instruction comes from P (R27, R243). -/
def Obligations.NoInterruptWhileDisabled : Prop :=
  ∀ s : State, s.ien = false → s.pendingInterrupt = none ∧ fetchAddr s = s.p ∧ (fetched s).cir = s.cir

/-- Clearing the flag or the control bit of a channel releases its priority level (R250, R171): CLF, any input/output
instruction with `f = 1`, CLC, and CLC 00 for every interface. That either bit releases it is decision D21 (log entry
39, DESIGN CHOICE): the model's choice. -/
def Obligations.ClearingReleasesLevel : Prop :=
  (∀ (s t : State) (c : SelectCode) (i : Instr), 8 ≤ c.toNat →
    (i = .clf c ∨ i = .hlt true c ∨ i = .sfc true c ∨ i = .sfs true c ∨ i = .mia true c ∨ i = .mib true c ∨
      i = .lia true c ∨ i = .lib true c ∨ i = .ota true c ∨ i = .otb true c ∨ i = .stc true c ∨ i = .clc true c) →
    exec i s = .next t → ∃ d, t.iface c = some d ∧ d.flag = false ∧ d.ack = false) ∧
  (∀ (s : State) (c : SelectCode) (d : Interface), 8 ≤ c.toNat → s.iface c = some d →
    ∃ t d', exec (.clc false c) s = .next t ∧ t.iface c = some d' ∧ d'.ctl = false ∧ d'.ack = false ∧
      d'.flag = d.flag) ∧
  (∀ (s : State) (f : Bool), ∃ t, exec (.clc f 0) s = .next t ∧
    ∀ (c : SelectCode) (d : Interface), 8 ≤ c.toNat → s.iface c = some d →
      ∃ d', t.iface c = some d' ∧ d'.ctl = false ∧ d'.ack = false ∧ d'.flag = d.flag)

/-! ## Invariants -/

/-- The invariant holds at reset. The reset values it looks at, clear marks and the installed interfaces, are log
entries 5 and 8. What the invariant `State.Inv` says is in part the model's choice: that a mark ACK implies flag and
control rests on D21 (log entry 39, DESIGN CHOICE, unsafe: where only the flag releases a level, CLC breaks it) and on
the marks of D18 (log entry 38, PRESUMED); the canonical memory list is the model's own (log entry 11, DESIGN CHOICE),
and so is that it lists no cell of locations 0 and 1 by D11 (log entry 33). -/
def Obligations.InvariantAtReset : Prop := State.reset.Inv

/-- Every step keeps the invariant, from every state in which it holds (R67, R28, R245, R250). What the invariant
`State.Inv` says is in part the model's choice: that a mark ACK implies flag and control rests on D21 (log entry 39,
DESIGN CHOICE, unsafe: where only the flag releases a level, CLC breaks it) and on the marks of D18 (log entry 38,
PRESUMED); the canonical memory list is the model's own (log entry 11, DESIGN CHOICE), and so is that it lists no cell
of locations 0 and 1 by D11 (log entry 33). -/
def Obligations.StepKeepsInvariant : Prop := ∀ s t : State, s.Inv → step s = .next t → t.Inv

/-- No step installs or removes anything or changes a parameter (R8): the configuration, the select codes that have an
interface, and the option boards stay. That they stand in the state is the model's choice (log entries 8, 9). -/
def Obligations.StepKeepsConfiguration : Prop :=
  ∀ s t : State, step s = .next t →
    t.cfg = s.cfg ∧ (∀ sc, (t.iface sc).isSome = (s.iface sc).isSome) ∧ t.dma.isSome = s.dma.isSome ∧
    t.guard.map (fun g => (g.protect.isSome, g.parity.isSome)) =
      s.guard.map (fun g => (g.protect.isSome, g.parity.isSome))

/-- In canonical form, memories that read alike are equal (the model's own layout, log entry 11). -/
def Obligations.CanonicalMemoriesEqual : Prop :=
  ∀ m n : Memory, m.wf = true → n.wf = true → (∀ k, m.byteAt k = n.byteAt k) → m = n

/-! ## What each kind of state is written by -/

/-- E changes only by the instructions of R21's list, the disabled rotates with E among them (R123); which value those
give it is decision D8 (log entry 30). -/
def Obligations.ExtendWriters : Prop :=
  ∀ (i : Instr) (s t : State), i.wf = true → exec i s = .next t → ¬ mayWriteE i → t.e = s.e

/-- O changes only by the instructions of R22's list, no shift among them, and is cleared only by CLO and the `f = 1`
forms on select code 01: arithmetic never clears it (D10, log entry 32). -/
def Obligations.OverflowWriters : Prop :=
  ∀ (i : Instr) (s t : State), i.wf = true → exec i s = .next t →
    (¬ mayWriteO i → t.o = s.o) ∧ (¬ mayClearO i → s.o = true → t.o = true)

/-- RUN, IEN, S and CIR change only by HLT, by the forms of R27, by OTr 01, and not at all (R36); nor do the fetch
address, the parameters and the agenda. The fetch address and the agenda are the model's own fields (log entries 12,
13). -/
def Obligations.ControlStateWriters : Prop :=
  ∀ (i : Instr) (s t : State), exec i s = .next t →
    ((∀ f sc, i ≠ .hlt f sc) → t.run = s.run) ∧
    (¬ mayWriteIen i → t.ien = s.ien) ∧
    ((∀ f, i ≠ .ota f 1 ∧ i ≠ .otb f 1) → t.sreg = s.sreg) ∧
    t.cir = s.cir ∧ t.fa = s.fa ∧ t.cfg = s.cfg ∧ t.agenda = s.agenda

/-- Every byte of memory is unchanged by every instruction but STA, STB, ISZ and JSB (R36). The cells a byte of memory
stands in are the model's own layout (log entry 11). -/
def Obligations.MemoryWriters : Prop :=
  ∀ (i : Instr) (s t : State), exec i s = .next t → ¬ stores i → ∀ k, t.mem.byteAt k = s.mem.byteAt k

/-! ## Shift-Rotate Group -/

/-- NOP, the word 000000, completes and changes nothing (R112); P has advanced in the fetch. -/
def Obligations.NopChangesNothing : Prop := decode 0 = .ok .nop ∧ ∀ s : State, exec .nop s = .next s

/-- The words that select nothing and are not NOP change nothing and do not skip (R91, R155). Their constructors are the
model's choice (log entry 26). -/
def Obligations.EmptyWordsChangeNothing : Prop :=
  ∀ (s : State) (r : Reg) (c1 c2 : ShiftCode),
    (c1.idle = true → c2.idle = true → exec (.noEffectSrg r c1 c2) s = .next s) ∧ exec (.noEffectAsg r) s = .next s

/-- A word that begins with a shift in the first position, enabled or a disabled rotate-with-E, completes with the state
of R110 and R111, every register, flag and byte not named there unchanged. The bit-level shifts are decision D7, the
value of a disabled rotate decision D8 (log entries 29, 30), and that SLr's skip adds one to P decision D5 (log entry
34): the model's choice. -/
def Obligations.FirstPositionWords : Prop :=
  ∀ (s : State) (cle sl : Bool) (s2 : Slot),
    exec (.als1 cle sl s2) s = .next (afterSrg s .A ⟨true, .ls⟩ cle sl s2) ∧
    exec (.bls1 cle sl s2) s = .next (afterSrg s .B ⟨true, .ls⟩ cle sl s2) ∧
    exec (.ars1 cle sl s2) s = .next (afterSrg s .A ⟨true, .rs⟩ cle sl s2) ∧
    exec (.brs1 cle sl s2) s = .next (afterSrg s .B ⟨true, .rs⟩ cle sl s2) ∧
    exec (.ral1 cle sl s2) s = .next (afterSrg s .A ⟨true, .rl⟩ cle sl s2) ∧
    exec (.rbl1 cle sl s2) s = .next (afterSrg s .B ⟨true, .rl⟩ cle sl s2) ∧
    exec (.rar1 cle sl s2) s = .next (afterSrg s .A ⟨true, .rr⟩ cle sl s2) ∧
    exec (.rbr1 cle sl s2) s = .next (afterSrg s .B ⟨true, .rr⟩ cle sl s2) ∧
    exec (.alr1 cle sl s2) s = .next (afterSrg s .A ⟨true, .lr⟩ cle sl s2) ∧
    exec (.blr1 cle sl s2) s = .next (afterSrg s .B ⟨true, .lr⟩ cle sl s2) ∧
    exec (.era1 cle sl s2) s = .next (afterSrg s .A ⟨true, .er⟩ cle sl s2) ∧
    exec (.erb1 cle sl s2) s = .next (afterSrg s .B ⟨true, .er⟩ cle sl s2) ∧
    exec (.ela1 cle sl s2) s = .next (afterSrg s .A ⟨true, .el⟩ cle sl s2) ∧
    exec (.elb1 cle sl s2) s = .next (afterSrg s .B ⟨true, .el⟩ cle sl s2) ∧
    exec (.alf1 cle sl s2) s = .next (afterSrg s .A ⟨true, .lf⟩ cle sl s2) ∧
    exec (.blf1 cle sl s2) s = .next (afterSrg s .B ⟨true, .lf⟩ cle sl s2) ∧
    exec (.eraDisabled1 cle sl s2) s = .next (afterSrg s .A ⟨false, .er⟩ cle sl s2) ∧
    exec (.erbDisabled1 cle sl s2) s = .next (afterSrg s .B ⟨false, .er⟩ cle sl s2) ∧
    exec (.elaDisabled1 cle sl s2) s = .next (afterSrg s .A ⟨false, .el⟩ cle sl s2) ∧
    exec (.elbDisabled1 cle sl s2) s = .next (afterSrg s .B ⟨false, .el⟩ cle sl s2)

/-- A word whose only micro-instruction is in the second position completes with the state of R110 and R111 (D7, D8; log
entries 29, 30). -/
def Obligations.SecondPositionWords : Prop :=
  ∀ (s : State) (c1 : ShiftCode), c1.idle = true →
    exec (.als2 c1) s = .next (afterSrg s .A noSlot false false ⟨true, .ls⟩) ∧
    exec (.bls2 c1) s = .next (afterSrg s .B noSlot false false ⟨true, .ls⟩) ∧
    exec (.ars2 c1) s = .next (afterSrg s .A noSlot false false ⟨true, .rs⟩) ∧
    exec (.brs2 c1) s = .next (afterSrg s .B noSlot false false ⟨true, .rs⟩) ∧
    exec (.ral2 c1) s = .next (afterSrg s .A noSlot false false ⟨true, .rl⟩) ∧
    exec (.rbl2 c1) s = .next (afterSrg s .B noSlot false false ⟨true, .rl⟩) ∧
    exec (.rar2 c1) s = .next (afterSrg s .A noSlot false false ⟨true, .rr⟩) ∧
    exec (.rbr2 c1) s = .next (afterSrg s .B noSlot false false ⟨true, .rr⟩) ∧
    exec (.alr2 c1) s = .next (afterSrg s .A noSlot false false ⟨true, .lr⟩) ∧
    exec (.blr2 c1) s = .next (afterSrg s .B noSlot false false ⟨true, .lr⟩) ∧
    exec (.era2 c1) s = .next (afterSrg s .A noSlot false false ⟨true, .er⟩) ∧
    exec (.erb2 c1) s = .next (afterSrg s .B noSlot false false ⟨true, .er⟩) ∧
    exec (.ela2 c1) s = .next (afterSrg s .A noSlot false false ⟨true, .el⟩) ∧
    exec (.elb2 c1) s = .next (afterSrg s .B noSlot false false ⟨true, .el⟩) ∧
    exec (.alf2 c1) s = .next (afterSrg s .A noSlot false false ⟨true, .lf⟩) ∧
    exec (.blf2 c1) s = .next (afterSrg s .B noSlot false false ⟨true, .lf⟩) ∧
    exec (.eraDisabled2 c1) s = .next (afterSrg s .A noSlot false false ⟨false, .er⟩) ∧
    exec (.erbDisabled2 c1) s = .next (afterSrg s .B noSlot false false ⟨false, .er⟩) ∧
    exec (.elaDisabled2 c1) s = .next (afterSrg s .A noSlot false false ⟨false, .el⟩) ∧
    exec (.elbDisabled2 c1) s = .next (afterSrg s .B noSlot false false ⟨false, .el⟩)

/-- A shift-rotate word that begins with CLE or SLr completes with the state of R110: E is cleared before SLr tests and
before the second position shifts (R113, R114). The bit-level shifts of the second position are decision D7, the value
of a disabled rotate there decision D8 (log entries 29, 30), and that SLr's skip adds one to P decision D5 (log entry
34): the model's choice. -/
def Obligations.ClearAndSkipWords : Prop :=
  ∀ (s : State) (r : Reg) (c1 : ShiftCode) (sl : Bool) (s2 : Slot), c1.idle = true →
    exec (.cleSrg r c1 sl s2) s = .next (afterSrg s r noSlot true sl s2) ∧
    exec (.slaSrg c1 s2) s = .next (afterSrg s .A noSlot false true s2) ∧
    exec (.slbSrg c1 s2) s = .next (afterSrg s .B noSlot false true s2)

/-- What the shifts compute: ARS is the floor of half the signed value, ALS doubles it where bits 15 and 14 agree, ALR
never leaves a sign bit (R115, R116, R119; decision D7, log entry 29). -/
def Obligations.ShiftArithmetic : Prop :=
  ∀ s : State, ∃ t u v : State,
    exec (.ars1 false false noSlot) s = .next t ∧ t.a.toInt = s.a.toInt / 2 ∧
    exec (.als1 false false noSlot) s = .next u ∧
      (s.a.getLsbD 15 = s.a.getLsbD 14 → u.a.toInt = 2 * s.a.toInt) ∧
    exec (.alr1 false false noSlot) s = .next v ∧ 0 ≤ v.a.toInt ∧ v.a.toNat = s.a.toNat % 2 ^ 14 * 2

/-- Rotating and rotating back restores the machine: RAL then RAR, ERA then ELA; sixteen RAL and seventeen ERA come
round (R117, R118, R120, R121). The one-position and 17-bit rotates are decision D7 (log entry 29, PRESUMED): the
model's choice. -/
def Obligations.RotatesComeRound : Prop :=
  ∀ s : State,
    andThen (exec (.ral1 false false noSlot) s) (exec (.rar1 false false noSlot)) = .next s ∧
    andThen (exec (.era1 false false noSlot) s) (exec (.ela1 false false noSlot)) = .next s ∧
    repeatExec (.ral1 false false noSlot) 16 s = .next s ∧
    repeatExec (.era1 false false noSlot) 17 s = .next s

/-! ## Alter-Skip Group -/

/-- Every alter-skip word completes with the state of R140 and the skip of R141 and R142, whatever else is in the word;
everything else is unchanged. E and O are set and never cleared by INr (D10), and RSS with SSr, SLr and a third test is
decision D9 (log entries 31, 32); a skip adds one to P (D5, log entry 34). All three are the model's choice. -/
def Obligations.AlterSkipWords : Prop :=
  ∀ (r : Reg) (sez ss sl inc sz rss : Bool) (eop : AlterOp),
    runsAsAsg (.cla sez eop ss sl inc sz rss) ⟨.A, .clear, sez, eop, ss, sl, inc, sz, rss⟩ ∧
    runsAsAsg (.clb sez eop ss sl inc sz rss) ⟨.B, .clear, sez, eop, ss, sl, inc, sz, rss⟩ ∧
    runsAsAsg (.cma sez eop ss sl inc sz rss) ⟨.A, .complement, sez, eop, ss, sl, inc, sz, rss⟩ ∧
    runsAsAsg (.cmb sez eop ss sl inc sz rss) ⟨.B, .complement, sez, eop, ss, sl, inc, sz, rss⟩ ∧
    runsAsAsg (.cca sez eop ss sl inc sz rss) ⟨.A, .clearComplement, sez, eop, ss, sl, inc, sz, rss⟩ ∧
    runsAsAsg (.ccb sez eop ss sl inc sz rss) ⟨.B, .clearComplement, sez, eop, ss, sl, inc, sz, rss⟩ ∧
    runsAsAsg (.sez r eop ss sl inc sz rss) ⟨r, .none, true, eop, ss, sl, inc, sz, rss⟩ ∧
    runsAsAsg (.cleAsg r ss sl inc sz rss) ⟨r, .none, false, .clear, ss, sl, inc, sz, rss⟩ ∧
    runsAsAsg (.cme r ss sl inc sz rss) ⟨r, .none, false, .complement, ss, sl, inc, sz, rss⟩ ∧
    runsAsAsg (.cce r ss sl inc sz rss) ⟨r, .none, false, .clearComplement, ss, sl, inc, sz, rss⟩ ∧
    runsAsAsg (.ssa sl inc sz rss) ⟨.A, .none, false, .none, true, sl, inc, sz, rss⟩ ∧
    runsAsAsg (.ssb sl inc sz rss) ⟨.B, .none, false, .none, true, sl, inc, sz, rss⟩ ∧
    runsAsAsg (.slaAsg inc sz rss) ⟨.A, .none, false, .none, false, true, inc, sz, rss⟩ ∧
    runsAsAsg (.slbAsg inc sz rss) ⟨.B, .none, false, .none, false, true, inc, sz, rss⟩ ∧
    runsAsAsg (.ina sz rss) ⟨.A, .none, false, .none, false, false, true, sz, rss⟩ ∧
    runsAsAsg (.inb sz rss) ⟨.B, .none, false, .none, false, false, true, sz, rss⟩ ∧
    runsAsAsg (.sza rss) ⟨.A, .none, false, .none, false, false, false, true, rss⟩ ∧
    runsAsAsg (.szb rss) ⟨.B, .none, false, .none, false, false, false, true, rss⟩ ∧
    runsAsAsg (.rss r) ⟨r, .none, false, .none, false, false, false, false, true⟩

/-- The register after CLr, CMr, CCr without INr: zero, the one's complement, all ones; the other register is unchanged
(R143, R144, R145). -/
def Obligations.ClearComplementValues : Prop :=
  ∀ (s : State) (sez ss sl sz rss : Bool) (eop : AlterOp),
    (∃ t, exec (.cla sez eop ss sl false sz rss) s = .next t ∧ t.a = 0 ∧ t.b = s.b ∧ t.o = s.o) ∧
    (∃ t, exec (.clb sez eop ss sl false sz rss) s = .next t ∧ t.b = 0 ∧ t.a = s.a ∧ t.o = s.o) ∧
    (∃ t, exec (.cma sez eop ss sl false sz rss) s = .next t ∧ t.a.toNat = 65535 - s.a.toNat ∧ t.b = s.b ∧ t.o = s.o) ∧
    (∃ t, exec (.cmb sez eop ss sl false sz rss) s = .next t ∧ t.b.toNat = 65535 - s.b.toNat ∧ t.a = s.a ∧ t.o = s.o) ∧
    (∃ t, exec (.cca sez eop ss sl false sz rss) s = .next t ∧ t.a.toInt = -1 ∧ t.b = s.b ∧ t.o = s.o) ∧
    (∃ t, exec (.ccb sez eop ss sl false sz rss) s = .next t ∧ t.b.toInt = -1 ∧ t.a = s.a ∧ t.o = s.o)

/-- `CMr,INr` is negation modulo 2^16, and `CMr,INr` followed by `CMr` subtracts one, for A and for B (the useful
sequences of R156). That INr sets E and O and never clears them is decision D10 (log entry 32): the model's choice. -/
def Obligations.NegateAndDecrement : Prop :=
  ∀ s : State,
    (∃ t u : State,
      exec (.cma false .none false false true false false) s = .next t ∧ t.a = -s.a ∧
      exec (.cma false .none false false false false false) t = .next u ∧ u.a = s.a - 1 ∧
      (t.e = true ↔ s.e = true ∨ s.a = 0) ∧ (t.o = true ↔ s.o = true ∨ s.a = 0o100000)) ∧
    (∃ t u : State,
      exec (.cmb false .none false false true false false) s = .next t ∧ t.b = -s.b ∧
      exec (.cmb false .none false false false false false) t = .next u ∧ u.b = s.b - 1 ∧
      (t.e = true ↔ s.e = true ∨ s.b = 0) ∧ (t.o = true ↔ s.o = true ∨ s.b = 0o100000))

/-! ## Memory Reference Group -/

/-- The direct address (R57): `m` in page zero, or in the page of the address the instruction came from (D3, log entry
34). -/
def Obligations.DirectAddressPage : Prop :=
  ∀ (x : MemRef) (fa : Addr),
    (x.cur = false → (directAddr x fa).toNat = x.m.toNat) ∧
    (x.cur = true → (directAddr x fa).toNat = fa.toNat / 1024 * 1024 + x.m.toNat)

/-- The effective address (R58): direct without `i`; with it, the address in the last word of the chain of indirect
words, the first whose bit 15 is clear, at any depth; the first word is the last where `INDIRECT_MULTILEVEL` is off. A
chain that meets absent memory is refused (R55, R67). Indirect words and their levels are decision D4 (log entry 35,
PRESUMED), the refusal decision D2 (log entry 17): the model's choice. -/
def Obligations.EffectiveAddressLevels : Prop :=
  ∀ (s : State) (x : MemRef),
    (x.ind = false → effectiveAddr s x = .next (directAddr x s.fa)) ∧
    (x.ind = true → s.cfg.indirectMultilevel = false →
      (∀ w, memRead s (directAddr x s.fa) = .next w → effectiveAddr s x = .next (w.setWidth 15)) ∧
      (¬ s.hasAddr (directAddr x s.fa) →
        effectiveAddr s x = .refused (.memoryNotInstalled (directAddr x s.fa)))) ∧
    (x.ind = true → s.cfg.indirectMultilevel = true →
      ∀ (n : Nat) (b : Addr), chainAddr s (directAddr x s.fa) n = some b →
        (∀ w, memRead s b = .next w → w.getLsbD 15 = false → effectiveAddr s x = .next (w.setWidth 15)) ∧
        (¬ s.hasAddr b → effectiveAddr s x = .refused (.memoryNotInstalled b)))

/-- The model's bound on the chain loses nothing (R59): the effective address hangs exactly when the chain of indirect
words never ends. The hang as a fault, found after 32768 words, is the model's own (D35; log entry 16, DEDUCED); the
levels are decision D4 (log entry 35, PRESUMED). -/
def Obligations.HangExactlyWhenEndless : Prop :=
  ∀ (s : State) (x : MemRef),
    effectiveAddr s x = .fault .indirectHang ↔
      x.ind = true ∧ s.cfg.indirectMultilevel = true ∧ ∀ n, (chainAddr s (directAddr x s.fa) n).isSome = true

/-- Memory (R55, R61): locations 0 and 1 are A and B, for every access by decision D11 (log entry 33); in canonical
memory a read gives the latest word written there and any other address reads as before; outside the installed memory
both are refused (R67) by decision D2 (log entry 17). Both decisions are the model's choice. The canonical form is the
model's own (log entry 11). -/
def Obligations.ReadsSeeLatestWrite : Prop :=
  ∀ (s : State) (a : Addr) (v : Word),
    memRead s 0 = .next s.a ∧ memRead s 1 = .next s.b ∧
    (s.mem.wf = true → s.hasAddr a →
      ∃ t, memWrite s a v = .next t ∧ memRead t a = .next v ∧ ∀ b, b ≠ a → memRead t b = memRead s b) ∧
    (¬ s.hasAddr a → memWrite s a v = .refused (.memoryNotInstalled a) ∧
      memRead s a = .refused (.memoryNotInstalled a))

/-- LDA and LDB, `i 110 rpm mmm mmm mmm` (R211): the register takes the word at the effective address, and nothing else
changes. -/
def Obligations.LoadTakesWord : Prop :=
  mrgEncoding 0b1100 .lda ∧ mrgEncoding 0b1101 .ldb ∧
  ∀ (s : State) (x : MemRef) (m : Addr) (v : Word), effectiveAddr s x = .next m → memRead s m = .next v →
    exec (.lda x) s = .next { s with a := v } ∧ exec (.ldb x) s = .next { s with b := v }

/-- STA and STB, `i 111 rpm mmm mmm mmm` (R212): the word at the effective address becomes the register's; the other
bytes, P and everything else stay. The memory is in canonical form, which every step keeps (InvariantAtReset,
StepKeepsInvariant). That 0 and 1 are A and B is decision D11 (log entry 33), the byte cells are the model's own layout
(log entry 11). -/
def Obligations.StorePutsRegister : Prop :=
  mrgEncoding 0b1110 .sta ∧ mrgEncoding 0b1111 .stb ∧
  ∀ (s : State) (x : MemRef) (m : Addr), s.mem.wf = true → effectiveAddr s x = .next m → s.hasAddr m →
    (∃ t, exec (.sta x) s = .next t ∧ storedAt s t m s.a ∧ t.p = s.p) ∧
    (∃ t, exec (.stb x) s = .next t ∧ storedAt s t m s.b ∧ t.p = s.p)

/-- ADA and ADB (R213): the sum modulo 2^16; E is set on a carry out of bit 15, O when the signed sum does not fit, and
neither is cleared (D10, log entry 32). -/
def Obligations.AddSetsFlags : Prop :=
  ∀ (s : State) (x : MemRef) (m : Addr) (v : Word), effectiveAddr s x = .next m → memRead s m = .next v →
    exec (.ada x) s = .next
      { s with
        a := BitVec.ofNat 16 (s.a.toNat + v.toNat)
        e := s.e || decide (65536 ≤ s.a.toNat + v.toNat)
        o := s.o || decide (s.a.toInt + v.toInt < -32768 ∨ 32767 < s.a.toInt + v.toInt) } ∧
    exec (.adb x) s = .next
      { s with
        b := BitVec.ofNat 16 (s.b.toNat + v.toNat)
        e := s.e || decide (65536 ≤ s.b.toNat + v.toNat)
        o := s.o || decide (s.b.toInt + v.toInt < -32768 ∨ 32767 < s.b.toInt + v.toInt) }

/-- CPA and CPB (R214): skip when the register and the word differ; nothing else changes. A skip adds one to P by
decision D5 (log entry 34). -/
def Obligations.CompareSkips : Prop :=
  ∀ (s : State) (x : MemRef) (m : Addr) (v : Word), effectiveAddr s x = .next m → memRead s m = .next v →
    exec (.cpa x) s = .next { s with p := if s.a = v then s.p else s.p + 1 } ∧
    exec (.cpb x) s = .next { s with p := if s.b = v then s.p else s.p + 1 }

/-- AND, XOR and IOR, bits 14:11 = 0010, 0100, 0110 (R215, R216, R217): A is combined with the word; nothing else
changes. -/
def Obligations.LogicCombinesA : Prop :=
  mrgEncoding 0b0010 .and ∧ mrgEncoding 0b0100 .xor ∧ mrgEncoding 0b0110 .ior ∧
  ∀ (s : State) (x : MemRef) (m : Addr) (v : Word), effectiveAddr s x = .next m → memRead s m = .next v →
    exec (.and x) s = .next { s with a := s.a &&& v } ∧
    exec (.xor x) s = .next { s with a := s.a ^^^ v } ∧
    exec (.ior x) s = .next { s with a := s.a ||| v }

/-- ISZ (R218), memory being in canonical form: the word plus one is stored and P skips when it became zero; E and O
stay, at locations 0 and 1 too, and so does every other byte. A skip adds one to P by decision D5 (log entry 34); that
it is one step is decision D36 (log entry 41). That 0 and 1 are A and B is decision D11 (log entry 33), the byte cells
are the model's own layout (log entry 11). -/
def Obligations.IncrementAndSkip : Prop :=
  ∀ (s : State) (x : MemRef) (m : Addr) (v : Word), s.mem.wf = true →
    effectiveAddr s x = .next m → memRead s m = .next v →
    ∃ t, exec (.isz x) s = .next t ∧ storedAt s t m (BitVec.ofNat 16 (v.toNat + 1)) ∧
      t.p = (if v.toNat = 65535 then s.p + 1 else s.p)

/-- JMP, `i 010 1pm mmm mmm mmm` (R219): P becomes the effective address; nothing else changes, and no word is read at
it. -/
def Obligations.JumpSetsP : Prop :=
  mrgEncoding 0b0101 .jmp ∧
  ∀ (s : State) (x : MemRef) (m : Addr), effectiveAddr s x = .next m → exec (.jmp x) s = .next { s with p := m }

/-- JSB (R220), memory being in canonical form: P is stored at the effective address with bit 15 zero, and P becomes the
next address modulo 2^15; every other byte and register stays. That the stored P is the one a normal fetch has advanced,
and that `M + 1` wraps, are decisions D6 and D1 (log entry 34): the model's choice. That 0 and 1 are A and B is decision
D11 (log entry 33), the byte cells are the model's own layout (log entry 11). -/
def Obligations.JumpSubroutineStoresP : Prop :=
  ∀ (s : State) (x : MemRef) (m : Addr), s.mem.wf = true → effectiveAddr s x = .next m → s.hasAddr m →
    ∃ t, exec (.jsb x) s = .next t ∧ storedAt s t m (BitVec.ofNat 16 s.p.toNat) ∧
      t.p = BitVec.ofNat 15 (m.toNat + 1)

/-- Return from a subroutine and from an interrupt's service (R221, R250), memory being in canonical form: after JSB to
`m`, an indirect JMP whose direct address is `m`, from page zero or from the page it is fetched from, comes back to the
stored P, in every state that still reads the word JSB left at `m`. Indirect addressing is decision D4 (log entry 35,
PRESUMED): the model's choice. -/
def Obligations.ReturnThroughEntryWord : Prop :=
  ∀ (s t u : State) (x y : MemRef) (m : Addr), s.mem.wf = true → effectiveAddr s x = .next m → s.hasAddr m →
    exec (.jsb x) s = .next t → memRead u m = memRead t m → y.ind = true → directAddr y u.fa = m →
    exec (.jmp y) u = .next { u with p := s.p }

/-- A memory reference instruction stops where its address does: an endless chain is a hang (R59), and an operand
outside the installed memory is refused (R67). The fault indirectHang is the model's own (D35; log entry 16, DEDUCED),
the refusal decision D2 (log entry 17). -/
def Obligations.MemoryReferenceStops : Prop :=
  ∀ (s : State) (x : MemRef) (i : Instr),
    (i = .and x ∨ i = .xor x ∨ i = .ior x ∨ i = .isz x ∨ i = .ada x ∨ i = .adb x ∨ i = .cpa x ∨ i = .cpb x ∨
      i = .lda x ∨ i = .ldb x ∨ i = .sta x ∨ i = .stb x ∨ i = .jsb x ∨ i = .jmp x) →
    (effectiveAddr s x = .fault .indirectHang → exec i s = .fault .indirectHang) ∧
    (∀ m, effectiveAddr s x = .next m → ¬ s.hasAddr m → i ≠ .jmp x → exec i s = .refused (.memoryNotInstalled m)) ∧
    (∀ a, effectiveAddr s x = .refused (.memoryNotInstalled a) → exec i s = .refused (.memoryNotInstalled a))

/-! ## Input/Output Group -/

/-- HLT (R172): RUN is cleared and P stays, for every select code without `f`; with `f` the flag of the channel is
cleared after it (order: D14, log entry 36), which releases its level (D21, log entry 39). -/
def Obligations.HaltStopsProcessor : Prop :=
  ∀ (s : State) (sc : SelectCode) (d : Interface),
    exec (.hlt false sc) s = .next { s with run := false } ∧
    exec (.hlt true 0) s = .next { s with run := false, ien := false } ∧
    exec (.hlt true 1) s = .next { s with run := false, o := false } ∧
    (8 ≤ sc.toNat → s.iface sc = some d →
      exec (.hlt true sc) s = .next { s.setIface sc { d with flag := false, ack := false } with run := false })

/-- STF and CLF on an interface (R173, R174): its flag is set or cleared, clearing releases its level (R171; decision
D21, log entry 39), and nothing else changes. -/
def Obligations.FlagSetAndClear : Prop :=
  ∀ (s : State) (sc : SelectCode) (d : Interface), 8 ≤ sc.toNat → s.iface sc = some d →
    exec (.stf sc) s = .next (s.setIface sc { d with flag := true }) ∧
    exec (.clf sc) s = .next (s.setIface sc { d with flag := false, ack := false })

/-- SFC and SFS on an interface, bit 9 = 0 (R175, R176): skip when the flag is 0, or 1; nothing else changes. A skip
adds one to P by decision D5 (log entry 34). -/
def Obligations.FlagTests : Prop :=
  ∀ (s : State) (sc : SelectCode) (d : Interface), 8 ≤ sc.toNat → s.iface sc = some d →
    exec (.sfc false sc) s = .next { s with p := if d.flag then s.p else s.p + 1 } ∧
    exec (.sfs false sc) s = .next { s with p := if d.flag then s.p + 1 else s.p }

/-- SFC and SFS with bit 9 = 1 off select code 01 (R93): refused where `SFX_CLEAR_FORM` is refuse; otherwise the test,
then the flag clear, on 00, on 04 (refused, it has no flag: D16, log entry 20) and on an interface; on an installed
board they are in DmaRegisterAccess and GuardRegisterAccess, on an absent part in EmptySelectCodeRefused. At `sc = 1`
the first clause speaks of terms no word decodes to: those words are SOC and SOS (R98). Parameter: D13, log entry 19;
order: D14, log entry 36; the clear releases the level: D21, log entry 39; a skip adds one to P: D5, log entry 34. All
are the model's choice. -/
def Obligations.FlagTestsClearForm : Prop :=
  ∀ (s : State) (sc : SelectCode) (d : Interface),
    (s.cfg.sfxClearForm = .refuse →
      exec (.sfc true sc) s = .refused (.clearFormNotListed sc) ∧
      exec (.sfs true sc) s = .refused (.clearFormNotListed sc)) ∧
    (s.cfg.sfxClearForm = .testThenClear →
      exec (.sfc true 0) s = .next { s with ien := false, p := if s.ien then s.p else s.p + 1 } ∧
      exec (.sfs true 0) s = .next { s with ien := false, p := if s.ien then s.p + 1 else s.p }) ∧
    (s.cfg.sfxClearForm = .testThenClear →
      exec (.sfc true 4) s = .refused (.noChannelFunction 4) ∧
      exec (.sfs true 4) s = .refused (.noChannelFunction 4)) ∧
    (s.cfg.sfxClearForm = .testThenClear → 8 ≤ sc.toNat → s.iface sc = some d →
      exec (.sfc true sc) s = .next
        { s.setIface sc { d with flag := false, ack := false } with p := if d.flag then s.p else s.p + 1 } ∧
      exec (.sfs true sc) s = .next
        { s.setIface sc { d with flag := false, ack := false } with p := if d.flag then s.p + 1 else s.p })

/-- MIr, LIr and OTr on an interface (R177, R178, R179): the input register is merged or loaded, the register goes to
the output register; with `f` the flag is cleared after it (order: D14, log entry 36), which releases the level (D21,
log entry 39). The buffers' 16 bits are decision D29 (log entry 40). -/
def Obligations.InterfaceData : Prop :=
  ∀ (s : State) (sc : SelectCode) (d : Interface) (f : Bool), 8 ≤ sc.toNat → s.iface sc = some d →
    let cleared (v : Interface) : Interface := if f then { v with flag := false, ack := false } else v
    exec (.mia f sc) s = .next { s.setIface sc (cleared d) with a := s.a ||| d.ibuf } ∧
    exec (.mib f sc) s = .next { s.setIface sc (cleared d) with b := s.b ||| d.ibuf } ∧
    exec (.lia f sc) s = .next { s.setIface sc (cleared d) with a := d.ibuf } ∧
    exec (.lib f sc) s = .next { s.setIface sc (cleared d) with b := d.ibuf } ∧
    exec (.ota f sc) s = .next (s.setIface sc (cleared { d with obuf := s.a })) ∧
    exec (.otb f sc) s = .next (s.setIface sc (cleared { d with obuf := s.b }))

/-- STC and CLC on an interface (R180, R181): the control bit is set or cleared, clearing releases the level (R171;
decision D21, log entry 39), and with `f` the flag is cleared after it (order: D14, log entry 36). -/
def Obligations.InterfaceControl : Prop :=
  ∀ (s : State) (sc : SelectCode) (d : Interface), 8 ≤ sc.toNat → s.iface sc = some d →
    exec (.stc false sc) s = .next (s.setIface sc { d with ctl := true }) ∧
    exec (.stc true sc) s = .next (s.setIface sc { d with ctl := true, flag := false, ack := false }) ∧
    exec (.clc false sc) s = .next (s.setIface sc { d with ctl := false, ack := false }) ∧
    exec (.clc true sc) s = .next (s.setIface sc { d with ctl := false, flag := false, ack := false })

/-- An interface is changed alone: the others read as before. -/
def Obligations.InterfaceWriteIsLocal : Prop :=
  ∀ (s : State) (sc k : SelectCode) (d : Interface),
    (s.setIface sc d).iface k = (if k = sc then some d else s.iface k) ∧
    s.setIface sc d = { s with slots := (s.setIface sc d).slots }

/-- STO (R182) sets O, CLO (R183) clears it, and nothing else changes; bit 11 of their words does not matter (R90). -/
def Obligations.OverflowSetAndClear : Prop :=
  ∀ s : State,
    exec .sto s = .next { s with o := true } ∧ exec .clo s = .next { s with o := false } ∧
    decode 0o102101 = .ok .sto ∧ decode 0o106101 = .ok .sto ∧ decode 0o103101 = .ok .clo ∧ decode 0o107101 = .ok .clo

/-- SOS and SOC (R184, R185): skip on O as it was before the clear that `f` asks for (order: D14, log entry 36). A skip
adds one to P by decision D5 (log entry 34). -/
def Obligations.OverflowTests : Prop :=
  ∀ (s : State) (f : Bool),
    exec (.sos f) s = .next { s with o := s.o && !f, p := if s.o then s.p + 1 else s.p } ∧
    exec (.soc f) s = .next { s with o := s.o && !f, p := if s.o then s.p else s.p + 1 }

/-- Select code 00 (R186): STF and CLF are the interrupt system's enable, SFS and SFC its test; the registers read 0 and
discard writes; STC does nothing; with `f` IEN is cleared (order: D14, log entry 36). The neutral cells are decision D15
(log entry 37). SFS 00 and SFC 00 are here with bit 9 = 0, in FlagTestsClearForm with bit 9 = 1. A skip adds one to P by
decision D5 (log entry 34): the model's choice. -/
def Obligations.SystemChannel : Prop :=
  ∀ (s : State) (f : Bool),
    exec (.stf 0) s = .next { s with ien := true } ∧
    exec (.clf 0) s = .next { s with ien := false } ∧
    exec (.sfs false 0) s = .next { s with p := if s.ien then s.p + 1 else s.p } ∧
    exec (.sfc false 0) s = .next { s with p := if s.ien then s.p else s.p + 1 } ∧
    exec (.lia f 0) s = .next { s with a := 0, ien := s.ien && !f } ∧
    exec (.lib f 0) s = .next { s with b := 0, ien := s.ien && !f } ∧
    exec (.mia f 0) s = .next { s with ien := s.ien && !f } ∧
    exec (.mib f 0) s = .next { s with ien := s.ien && !f } ∧
    exec (.ota f 0) s = .next { s with ien := s.ien && !f } ∧
    exec (.otb f 0) s = .next { s with ien := s.ien && !f } ∧
    exec (.stc f 0) s = .next { s with ien := s.ien && !f }

/-- CLC 00 (R181, R171): every interface's control bit and acknowledge mark is cleared and its flag and registers stay;
an installed DMA board's start bits are cleared; with `f` IEN is cleared (order: D14, log entry 36); nothing else
changes. That a clear control bit releases the level is decision D21 (log entry 39); what CLC 00 does to a DMA board is
R171 with the start bit of R197. -/
def Obligations.ClearAllControls : Prop :=
  ∀ (s : State) (f : Bool), ∃ t, exec (.clc f 0) s = .next t ∧
    t = { s with slots := t.slots, dma := t.dma, ien := s.ien && !f } ∧
    (∀ sc, t.iface sc = (s.iface sc).map (fun d => { d with ctl := false, ack := false })) ∧
    t.dma = s.dma.map (fun b => ⟨{ b.ch1 with start := false }, { b.ch2 with start := false }⟩)

/-- Select code 01 (R187, R30): the input register is S; the output register is S where the model has an S-register and
nothing elsewhere (D28); there is no control bit (D15); with `f` O is cleared (order: D14) (log entries 36, 37, 40). -/
def Obligations.PanelChannel : Prop :=
  ∀ (s : State) (f : Bool),
    exec (.lia f 1) s = .next { s with a := s.sreg, o := s.o && !f } ∧
    exec (.lib f 1) s = .next { s with b := s.sreg, o := s.o && !f } ∧
    exec (.mia f 1) s = .next { s with a := s.a ||| s.sreg, o := s.o && !f } ∧
    exec (.mib f 1) s = .next { s with b := s.b ||| s.sreg, o := s.o && !f } ∧
    exec (.stc f 1) s = .next { s with o := s.o && !f } ∧
    exec (.clc f 1) s = .next { s with o := s.o && !f } ∧
    ((s.cfg.model = .hp2100A ∨ (s.cfg.model = .hp2114 ∧ s.cfg.sRegisterOn2114 = true)) →
      exec (.ota f 1) s = .next { s with sreg := s.a, o := s.o && !f } ∧
      exec (.otb f 1) s = .next { s with sreg := s.b, o := s.o && !f }) ∧
    ((s.cfg.model = .hp2115 ∨ s.cfg.model = .hp2116 ∨ (s.cfg.model = .hp2114 ∧ s.cfg.sRegisterOn2114 = false)) →
      exec (.ota f 1) s = .next { s with o := s.o && !f } ∧ exec (.otb f 1) s = .next { s with o := s.o && !f })

/-- Select code 04 (R188, R253): LIr and MIr read CIR, zero extended (D34); its other functions are refused (D16) (log
entries 20, 37, 40). -/
def Obligations.LastInterruptChannel : Prop :=
  ∀ (s : State) (f : Bool),
    exec (.lia false 4) s = .next { s with a := BitVec.ofNat 16 s.cir.toNat } ∧
    exec (.lib false 4) s = .next { s with b := BitVec.ofNat 16 s.cir.toNat } ∧
    exec (.mia false 4) s = .next { s with a := s.a ||| BitVec.ofNat 16 s.cir.toNat } ∧
    exec (.mib false 4) s = .next { s with b := s.b ||| BitVec.ofNat 16 s.cir.toNat } ∧
    exec (.hlt false 4) s = .next { s with run := false } ∧ exec (.hlt true 4) s = .refused (.noChannelFunction 4) ∧
    exec (.lia true 4) s = .refused (.noChannelFunction 4) ∧ exec (.mia true 4) s = .refused (.noChannelFunction 4) ∧
    exec (.lib true 4) s = .refused (.noChannelFunction 4) ∧ exec (.mib true 4) s = .refused (.noChannelFunction 4) ∧
    exec (.sfs false 4) s = .refused (.noChannelFunction 4) ∧
    exec (.sfc false 4) s = .refused (.noChannelFunction 4) ∧
    exec (.stf 4) s = .refused (.noChannelFunction 4) ∧ exec (.clf 4) s = .refused (.noChannelFunction 4) ∧
    exec (.stc f 4) s = .refused (.noChannelFunction 4) ∧ exec (.clc f 4) s = .refused (.noChannelFunction 4) ∧
    exec (.ota f 4) s = .refused (.noChannelFunction 4) ∧ exec (.otb f 4) s = .refused (.noChannelFunction 4)

/-- A select code with nothing installed (R190, R171): every input/output instruction but HLT without `f` is refused
(D16, D17, log entry 20). -/
def Obligations.EmptySelectCodeRefused : Prop :=
  ∀ (s : State) (sc : SelectCode) (f : Bool),
    ((8 ≤ sc.toNat ∧ s.iface sc = none) ∨ (sc.toNat = 5 ∧ s.guard = none) ∨
      ((sc.toNat = 2 ∨ sc.toNat = 3 ∨ sc.toNat = 6 ∨ sc.toNat = 7) ∧ s.dma = none)) →
    exec (.hlt false sc) s = .next { s with run := false } ∧
    exec (.hlt true sc) s = .refused (.noChannelFunction sc) ∧
    exec (.stf sc) s = .refused (.noChannelFunction sc) ∧ exec (.clf sc) s = .refused (.noChannelFunction sc) ∧
    exec (.sfc false sc) s = .refused (.noChannelFunction sc) ∧
    exec (.sfs false sc) s = .refused (.noChannelFunction sc) ∧
    (s.cfg.sfxClearForm = .testThenClear →
      exec (.sfc true sc) s = .refused (.noChannelFunction sc) ∧
      exec (.sfs true sc) s = .refused (.noChannelFunction sc)) ∧
    exec (.mia f sc) s = .refused (.noChannelFunction sc) ∧ exec (.mib f sc) s = .refused (.noChannelFunction sc) ∧
    exec (.lia f sc) s = .refused (.noChannelFunction sc) ∧ exec (.lib f sc) s = .refused (.noChannelFunction sc) ∧
    exec (.ota f sc) s = .refused (.noChannelFunction sc) ∧ exec (.otb f sc) s = .refused (.noChannelFunction sc) ∧
    exec (.stc f sc) s = .refused (.noChannelFunction sc) ∧ exec (.clc f sc) s = .refused (.noChannelFunction sc)

/-- An installed DMA board (R196, R197): every input/output form on the control channels 02 and 03, and every form on
the channels 06 and 07 but LIr and MIr, reads and writes its registers; the length keeps bits 13:0 (R199; log entry 23,
DEDUCED). LIr and MIr on 06 and 07, whose input register is empty, are refused (log entry 20), and so is STC, the start
of a transfer (R200; log entry 21): the model's choice. What CLC and CLF on 06 and 07 do, R197 does not state; that they
clear the start and the abort bit is the model's choice (log entry 22, DEDUCED). SFC and SFS with bit 9 = 1 are refused
while `SFX_CLEAR_FORM` is refuse (FlagTestsClearForm), and test, then clear, where it says so (D13, log entry 19);
order: D14, log entry 36. A skip adds one to P by decision D5 (log entry 34): the model's choice. -/
def Obligations.DmaRegisterAccess : Prop :=
  ∀ (s : State) (b : DmaBoard) (f : Bool), s.dma = some b →
    dmaControlForms 2 s b.ch1 (fun c => { s with dma := some { b with ch1 := c } }) f ∧
    dmaControlForms 3 s b.ch2 (fun c => { s with dma := some { b with ch2 := c } }) f ∧
    dmaDeviceForms 6 s b.ch1 (fun c => { s with dma := some { b with ch1 := c } }) f ∧
    dmaDeviceForms 7 s b.ch2 (fun c => { s with dma := some { b with ch2 := c } }) f

/-- Installed memory protect and parity boards (R34, R201): OTr 05 loads the upper bound, LIr and MIr 05 read the error
register, STC and CLC 05 are the protection interrupt's enable, STF, CLF, SFS and SFC 05 the parity interrupt's; with
`f` that one is cleared. Each register is there with its own board, the error register with either, and a function whose
board is absent is refused. The 16-bit widths, that nothing else happens and the refusals are the model's choice (log
entries 10, 24, 20). SFC and SFS with bit 9 = 1 are refused while `SFX_CLEAR_FORM` is refuse (FlagTestsClearForm), and
test, then clear, where it says so (D13, log entry 19); order: D14, log entry 36. A skip adds one to P by decision D5
(log entry 34): the model's choice. -/
def Obligations.GuardRegisterAccess : Prop :=
  ∀ (s : State) (e : Word) (p : ProtectRegs) (q : ParityRegs) (f : Bool),
    (s.guard = some ⟨.both p q, e⟩ → guardBothForms s e p q f) ∧
    (s.guard = some ⟨.protect p, e⟩ → guardProtectForms s e p) ∧
    (s.guard = some ⟨.parity q, e⟩ → guardParityForms s e q f)

/-! ## Reset -/

/-- The launch state (R37, R281): running, interrupts disabled, every control bit and acknowledge mark clear, no option
board, P at ENTRY. These values are the spec's own premise (decision D26), and ENTRY = 02000 and the installed
interfaces are the model's choice (log entries 3, 5, 8). -/
def Obligations.LaunchState : Prop :=
  State.reset.run = true ∧ State.reset.ien = false ∧ State.reset.dma = none ∧ State.reset.guard = none ∧
  State.reset.p = 0o2000 ∧
  (∀ sc : SelectCode, (8 ≤ sc.toNat → ∃ d, State.reset.iface sc = some d ∧ d.ctl = false ∧ d.ack = false) ∧
    (sc.toNat < 8 → State.reset.iface sc = none))
end

