-- ==== Sys2Proof/Laws/Memory.lean ====
section
/-! SUPPORT. The laws of main memory: what a read after a write gives, and that every write keeps the canonical form
and the range of the listed cells. -/

namespace Sys2Proof.Machine

theorem Memory.byteAt_nil (k : Nat) : Memory.byteAt [] k = unlistedByte := rfl

theorem Memory.byteAt_cons (k' : Nat) (v : BitVec 8) (m : Memory) (k : Nat) :
    Memory.byteAt ((k', v) :: m) k = if k' = k then v else m.byteAt k := rfl

/-- A cell below every listed address reads as an unlisted one. -/
theorem Memory.byteAt_below {m : Memory} {lo k : Nat} (h : Memory.wfAbove lo m = true) (hk : k < lo) :
    m.byteAt k = unlistedByte := by
  induction m generalizing lo with
  | nil => rfl
  | cons c m ih =>
    obtain ⟨k', v⟩ := c
    simp only [wfAbove, Bool.and_eq_true, decide_eq_true_eq] at h
    rw [byteAt_cons, if_neg (by omega), ih h.2 (by omega)]

/-- Above a smaller bound too. -/
theorem Memory.wfAbove_mono {m : Memory} {lo lo' : Nat} (h : Memory.wfAbove lo m = true) (hl : lo' ≤ lo) :
    Memory.wfAbove lo' m = true := by
  cases m with
  | nil => rfl
  | cons c m =>
    obtain ⟨k', v⟩ := c
    simp only [wfAbove, Bool.and_eq_true, decide_eq_true_eq] at h ⊢
    exact ⟨⟨by omega, h.1.2⟩, h.2⟩

/-- Writing a cell leaves the others. -/
theorem Memory.byteAt_setByte_ne (m : Memory) {k j : Nat} (v : BitVec 8) (h : j ≠ k) :
    (m.setByte k v).byteAt j = m.byteAt j := by
  induction m with
  | nil => unfold setByte; split <;> simp [byteAt, h.symm]
  | cons c m ih =>
    obtain ⟨k', v'⟩ := c
    unfold setByte
    split
    · split <;> simp [byteAt, h.symm]
    · split
      · subst_vars; split <;> simp [byteAt, h.symm]
      · simp [byteAt, ih]

/-- Reading a cell after writing it, in a canonical memory. -/
theorem Memory.byteAt_setByte_self {m : Memory} {lo : Nat} (h : Memory.wfAbove lo m = true) (k : Nat) (v : BitVec 8) :
    (m.setByte k v).byteAt k = v := by
  induction m generalizing lo with
  | nil => unfold setByte; split <;> simp_all [byteAt]
  | cons c m ih =>
    obtain ⟨k', v'⟩ := c
    simp only [wfAbove, Bool.and_eq_true, decide_eq_true_eq] at h
    unfold setByte
    split
    · split
      · rw [byteAt_cons, if_neg (by omega), byteAt_below h.2 (by omega)]; simp_all
      · simp [byteAt]
    · split
      · split
        · subst_vars; exact byteAt_below h.2 (by omega)
        · simp [byteAt]
      · rw [byteAt_cons, if_neg (by assumption)]; exact ih h.2

/-- A write keeps the canonical form. -/
theorem Memory.setByte_wfAbove {m : Memory} {lo : Nat} (h : Memory.wfAbove lo m = true) {k : Nat} (v : BitVec 8)
    (hk : lo ≤ k) : Memory.wfAbove lo (m.setByte k v) = true := by
  induction m generalizing lo with
  | nil => unfold setByte; split <;> simp_all [wfAbove]
  | cons c m ih =>
    obtain ⟨k', v'⟩ := c
    have h' := h
    simp only [wfAbove, Bool.and_eq_true, decide_eq_true_eq] at h
    unfold setByte
    split
    · split
      · exact h'
      · simp only [wfAbove, Bool.and_eq_true, decide_eq_true_eq]
        exact ⟨⟨hk, by simpa using ‹_›⟩, ⟨by omega, h.1.2⟩, h.2⟩
    · split
      · split
        · exact wfAbove_mono h.2 (by omega)
        · simp only [wfAbove, Bool.and_eq_true, decide_eq_true_eq]
          exact ⟨⟨hk, by simpa using ‹_›⟩, by subst_vars; exact h.2⟩
      · simp only [wfAbove, Bool.and_eq_true, decide_eq_true_eq]
        exact ⟨h.1, ih h.2 (by omega)⟩

theorem Memory.setByte_wf {m : Memory} (h : m.wf = true) (k : Nat) (v : BitVec 8) : (m.setByte k v).wf = true :=
  setByte_wfAbove h v (Nat.zero_le k)

/-- What a write lists: the cell written, or what was listed before. -/
theorem Memory.mem_setByte {m : Memory} {k j : Nat} {v u : BitVec 8} (h : (j, u) ∈ m.setByte k v) :
    j = k ∨ (j, u) ∈ m := by
  induction m with
  | nil => unfold setByte at h; split at h <;> simp_all
  | cons c m ih =>
    obtain ⟨k', v'⟩ := c
    unfold setByte at h
    split at h
    · split at h
      · exact .inr h
      · simp only [List.mem_cons, Prod.mk.injEq] at h ⊢; tauto
    · split at h
      · split at h
        · exact .inr (List.mem_cons_of_mem _ h)
        · simp only [List.mem_cons, Prod.mk.injEq] at h ⊢; tauto
      · simp only [List.mem_cons] at h ⊢
        rcases h with h | h
        · exact .inr (.inl h)
        · exact (ih h).imp id .inr

/-- A word write keeps the canonical form. -/
theorem Memory.setWord_wf {m : Memory} (h : m.wf = true) (a : Addr) (v : Word) : (m.setWord a v).wf = true :=
  setByte_wf (setByte_wf h _ _) _ _

/-- What a word write lists: its two cells, or what was listed before. -/
theorem Memory.mem_setWord {m : Memory} {a : Addr} {v : Word} {j : Nat} {u : BitVec 8} (h : (j, u) ∈ m.setWord a v) :
    j = 2 * a.toNat ∨ j = 2 * a.toNat + 1 ∨ (j, u) ∈ m := by
  rcases mem_setByte h with h | h
  · exact .inr (.inl h)
  · exact (mem_setByte h).imp id .inr

/-- A word write leaves every byte but its two. -/
theorem Memory.byteAt_setWord_ne (m : Memory) {a : Addr} {k : Nat} (v : Word) (h0 : k ≠ 2 * a.toNat)
    (h1 : k ≠ 2 * a.toNat + 1) : (m.setWord a v).byteAt k = m.byteAt k := by
  unfold setWord; rw [byteAt_setByte_ne _ _ h1, byteAt_setByte_ne _ _ h0]

/-- Reading back the word written. -/
theorem Memory.wordAt_setWord_self {m : Memory} (h : m.wf = true) (a : Addr) (v : Word) :
    (m.setWord a v).wordAt a = v := by
  unfold wordAt setWord
  rw [byteAt_setByte_ne _ _ (by omega), byteAt_setByte_self h, byteAt_setByte_self (setByte_wf h _ _)]
  exact BitVec.extractLsb'_append_extractLsb'_eq_extractLsb' (by omega) |>.trans (by simp)

/-- A word write leaves the other words. -/
theorem Memory.wordAt_setWord_ne (m : Memory) {a b : Addr} (v : Word) (h : b ≠ a) :
    (m.setWord a v).wordAt b = m.wordAt b := by
  have : b.toNat ≠ a.toNat := fun e => h (BitVec.eq_of_toNat_eq e)
  unfold wordAt
  rw [byteAt_setWord_ne _ _ (by omega) (by omega), byteAt_setWord_ne _ _ (by omega) (by omega)]

/-- The memory at reset is in canonical form. -/
theorem reset_mem_wf : State.reset.mem.wf = true := rfl

end Sys2Proof.Machine
end

