-- ==== Sys2Proof/Laws/State.lean ====
section
/-! SUPPORT. One lemma per field per update of the state, all true by rfl, so that no proof unfolds a record update. -/

namespace Sys2Proof.Machine


/-! setE -/

@[simp] theorem State.setE_a (s : State) (v : Bool) : (s.setE v).a = s.a := rfl
@[simp] theorem State.setE_b (s : State) (v : Bool) : (s.setE v).b = s.b := rfl
@[simp] theorem State.setE_e (s : State) (v : Bool) : (s.setE v).e = v := rfl
@[simp] theorem State.setE_o (s : State) (v : Bool) : (s.setE v).o = s.o := rfl
@[simp] theorem State.setE_p (s : State) (v : Bool) : (s.setE v).p = s.p := rfl
@[simp] theorem State.setE_fa (s : State) (v : Bool) : (s.setE v).fa = s.fa := rfl
@[simp] theorem State.setE_run (s : State) (v : Bool) : (s.setE v).run = s.run := rfl
@[simp] theorem State.setE_ien (s : State) (v : Bool) : (s.setE v).ien = s.ien := rfl
@[simp] theorem State.setE_sreg (s : State) (v : Bool) : (s.setE v).sreg = s.sreg := rfl
@[simp] theorem State.setE_cir (s : State) (v : Bool) : (s.setE v).cir = s.cir := rfl
@[simp] theorem State.setE_slots (s : State) (v : Bool) : (s.setE v).slots = s.slots := rfl
@[simp] theorem State.setE_dma (s : State) (v : Bool) : (s.setE v).dma = s.dma := rfl
@[simp] theorem State.setE_guard (s : State) (v : Bool) : (s.setE v).guard = s.guard := rfl
@[simp] theorem State.setE_mem (s : State) (v : Bool) : (s.setE v).mem = s.mem := rfl
@[simp] theorem State.setE_cfg (s : State) (v : Bool) : (s.setE v).cfg = s.cfg := rfl
@[simp] theorem State.setE_agenda (s : State) (v : Bool) : (s.setE v).agenda = s.agenda := rfl
@[simp] theorem State.setE_iface (s : State) (v : Bool) (c : SelectCode) : (s.setE v).iface c = s.iface c := rfl
@[simp] theorem State.setE_reg (s : State) (v : Bool) (r : Reg) : (s.setE v).reg r = s.reg r := by cases r <;> rfl

/-! setO -/

@[simp] theorem State.setO_a (s : State) (v : Bool) : (s.setO v).a = s.a := rfl
@[simp] theorem State.setO_b (s : State) (v : Bool) : (s.setO v).b = s.b := rfl
@[simp] theorem State.setO_e (s : State) (v : Bool) : (s.setO v).e = s.e := rfl
@[simp] theorem State.setO_o (s : State) (v : Bool) : (s.setO v).o = v := rfl
@[simp] theorem State.setO_p (s : State) (v : Bool) : (s.setO v).p = s.p := rfl
@[simp] theorem State.setO_fa (s : State) (v : Bool) : (s.setO v).fa = s.fa := rfl
@[simp] theorem State.setO_run (s : State) (v : Bool) : (s.setO v).run = s.run := rfl
@[simp] theorem State.setO_ien (s : State) (v : Bool) : (s.setO v).ien = s.ien := rfl
@[simp] theorem State.setO_sreg (s : State) (v : Bool) : (s.setO v).sreg = s.sreg := rfl
@[simp] theorem State.setO_cir (s : State) (v : Bool) : (s.setO v).cir = s.cir := rfl
@[simp] theorem State.setO_slots (s : State) (v : Bool) : (s.setO v).slots = s.slots := rfl
@[simp] theorem State.setO_dma (s : State) (v : Bool) : (s.setO v).dma = s.dma := rfl
@[simp] theorem State.setO_guard (s : State) (v : Bool) : (s.setO v).guard = s.guard := rfl
@[simp] theorem State.setO_mem (s : State) (v : Bool) : (s.setO v).mem = s.mem := rfl
@[simp] theorem State.setO_cfg (s : State) (v : Bool) : (s.setO v).cfg = s.cfg := rfl
@[simp] theorem State.setO_agenda (s : State) (v : Bool) : (s.setO v).agenda = s.agenda := rfl
@[simp] theorem State.setO_iface (s : State) (v : Bool) (c : SelectCode) : (s.setO v).iface c = s.iface c := rfl
@[simp] theorem State.setO_reg (s : State) (v : Bool) (r : Reg) : (s.setO v).reg r = s.reg r := by cases r <;> rfl

/-! setP -/

@[simp] theorem State.setP_a (s : State) (v : Addr) : (s.setP v).a = s.a := rfl
@[simp] theorem State.setP_b (s : State) (v : Addr) : (s.setP v).b = s.b := rfl
@[simp] theorem State.setP_e (s : State) (v : Addr) : (s.setP v).e = s.e := rfl
@[simp] theorem State.setP_o (s : State) (v : Addr) : (s.setP v).o = s.o := rfl
@[simp] theorem State.setP_p (s : State) (v : Addr) : (s.setP v).p = v := rfl
@[simp] theorem State.setP_fa (s : State) (v : Addr) : (s.setP v).fa = s.fa := rfl
@[simp] theorem State.setP_run (s : State) (v : Addr) : (s.setP v).run = s.run := rfl
@[simp] theorem State.setP_ien (s : State) (v : Addr) : (s.setP v).ien = s.ien := rfl
@[simp] theorem State.setP_sreg (s : State) (v : Addr) : (s.setP v).sreg = s.sreg := rfl
@[simp] theorem State.setP_cir (s : State) (v : Addr) : (s.setP v).cir = s.cir := rfl
@[simp] theorem State.setP_slots (s : State) (v : Addr) : (s.setP v).slots = s.slots := rfl
@[simp] theorem State.setP_dma (s : State) (v : Addr) : (s.setP v).dma = s.dma := rfl
@[simp] theorem State.setP_guard (s : State) (v : Addr) : (s.setP v).guard = s.guard := rfl
@[simp] theorem State.setP_mem (s : State) (v : Addr) : (s.setP v).mem = s.mem := rfl
@[simp] theorem State.setP_cfg (s : State) (v : Addr) : (s.setP v).cfg = s.cfg := rfl
@[simp] theorem State.setP_agenda (s : State) (v : Addr) : (s.setP v).agenda = s.agenda := rfl
@[simp] theorem State.setP_iface (s : State) (v : Addr) (c : SelectCode) : (s.setP v).iface c = s.iface c := rfl
@[simp] theorem State.setP_reg (s : State) (v : Addr) (r : Reg) : (s.setP v).reg r = s.reg r := by cases r <;> rfl

/-! setFa -/

@[simp] theorem State.setFa_a (s : State) (v : Addr) : (s.setFa v).a = s.a := rfl
@[simp] theorem State.setFa_b (s : State) (v : Addr) : (s.setFa v).b = s.b := rfl
@[simp] theorem State.setFa_e (s : State) (v : Addr) : (s.setFa v).e = s.e := rfl
@[simp] theorem State.setFa_o (s : State) (v : Addr) : (s.setFa v).o = s.o := rfl
@[simp] theorem State.setFa_p (s : State) (v : Addr) : (s.setFa v).p = s.p := rfl
@[simp] theorem State.setFa_fa (s : State) (v : Addr) : (s.setFa v).fa = v := rfl
@[simp] theorem State.setFa_run (s : State) (v : Addr) : (s.setFa v).run = s.run := rfl
@[simp] theorem State.setFa_ien (s : State) (v : Addr) : (s.setFa v).ien = s.ien := rfl
@[simp] theorem State.setFa_sreg (s : State) (v : Addr) : (s.setFa v).sreg = s.sreg := rfl
@[simp] theorem State.setFa_cir (s : State) (v : Addr) : (s.setFa v).cir = s.cir := rfl
@[simp] theorem State.setFa_slots (s : State) (v : Addr) : (s.setFa v).slots = s.slots := rfl
@[simp] theorem State.setFa_dma (s : State) (v : Addr) : (s.setFa v).dma = s.dma := rfl
@[simp] theorem State.setFa_guard (s : State) (v : Addr) : (s.setFa v).guard = s.guard := rfl
@[simp] theorem State.setFa_mem (s : State) (v : Addr) : (s.setFa v).mem = s.mem := rfl
@[simp] theorem State.setFa_cfg (s : State) (v : Addr) : (s.setFa v).cfg = s.cfg := rfl
@[simp] theorem State.setFa_agenda (s : State) (v : Addr) : (s.setFa v).agenda = s.agenda := rfl
@[simp] theorem State.setFa_iface (s : State) (v : Addr) (c : SelectCode) : (s.setFa v).iface c = s.iface c := rfl
@[simp] theorem State.setFa_reg (s : State) (v : Addr) (r : Reg) : (s.setFa v).reg r = s.reg r := by cases r <;> rfl

/-! setRun -/

@[simp] theorem State.setRun_a (s : State) (v : Bool) : (s.setRun v).a = s.a := rfl
@[simp] theorem State.setRun_b (s : State) (v : Bool) : (s.setRun v).b = s.b := rfl
@[simp] theorem State.setRun_e (s : State) (v : Bool) : (s.setRun v).e = s.e := rfl
@[simp] theorem State.setRun_o (s : State) (v : Bool) : (s.setRun v).o = s.o := rfl
@[simp] theorem State.setRun_p (s : State) (v : Bool) : (s.setRun v).p = s.p := rfl
@[simp] theorem State.setRun_fa (s : State) (v : Bool) : (s.setRun v).fa = s.fa := rfl
@[simp] theorem State.setRun_run (s : State) (v : Bool) : (s.setRun v).run = v := rfl
@[simp] theorem State.setRun_ien (s : State) (v : Bool) : (s.setRun v).ien = s.ien := rfl
@[simp] theorem State.setRun_sreg (s : State) (v : Bool) : (s.setRun v).sreg = s.sreg := rfl
@[simp] theorem State.setRun_cir (s : State) (v : Bool) : (s.setRun v).cir = s.cir := rfl
@[simp] theorem State.setRun_slots (s : State) (v : Bool) : (s.setRun v).slots = s.slots := rfl
@[simp] theorem State.setRun_dma (s : State) (v : Bool) : (s.setRun v).dma = s.dma := rfl
@[simp] theorem State.setRun_guard (s : State) (v : Bool) : (s.setRun v).guard = s.guard := rfl
@[simp] theorem State.setRun_mem (s : State) (v : Bool) : (s.setRun v).mem = s.mem := rfl
@[simp] theorem State.setRun_cfg (s : State) (v : Bool) : (s.setRun v).cfg = s.cfg := rfl
@[simp] theorem State.setRun_agenda (s : State) (v : Bool) : (s.setRun v).agenda = s.agenda := rfl
@[simp] theorem State.setRun_iface (s : State) (v : Bool) (c : SelectCode) : (s.setRun v).iface c = s.iface c := rfl
@[simp] theorem State.setRun_reg (s : State) (v : Bool) (r : Reg) : (s.setRun v).reg r = s.reg r := by cases r <;> rfl

/-! setIen -/

@[simp] theorem State.setIen_a (s : State) (v : Bool) : (s.setIen v).a = s.a := rfl
@[simp] theorem State.setIen_b (s : State) (v : Bool) : (s.setIen v).b = s.b := rfl
@[simp] theorem State.setIen_e (s : State) (v : Bool) : (s.setIen v).e = s.e := rfl
@[simp] theorem State.setIen_o (s : State) (v : Bool) : (s.setIen v).o = s.o := rfl
@[simp] theorem State.setIen_p (s : State) (v : Bool) : (s.setIen v).p = s.p := rfl
@[simp] theorem State.setIen_fa (s : State) (v : Bool) : (s.setIen v).fa = s.fa := rfl
@[simp] theorem State.setIen_run (s : State) (v : Bool) : (s.setIen v).run = s.run := rfl
@[simp] theorem State.setIen_ien (s : State) (v : Bool) : (s.setIen v).ien = v := rfl
@[simp] theorem State.setIen_sreg (s : State) (v : Bool) : (s.setIen v).sreg = s.sreg := rfl
@[simp] theorem State.setIen_cir (s : State) (v : Bool) : (s.setIen v).cir = s.cir := rfl
@[simp] theorem State.setIen_slots (s : State) (v : Bool) : (s.setIen v).slots = s.slots := rfl
@[simp] theorem State.setIen_dma (s : State) (v : Bool) : (s.setIen v).dma = s.dma := rfl
@[simp] theorem State.setIen_guard (s : State) (v : Bool) : (s.setIen v).guard = s.guard := rfl
@[simp] theorem State.setIen_mem (s : State) (v : Bool) : (s.setIen v).mem = s.mem := rfl
@[simp] theorem State.setIen_cfg (s : State) (v : Bool) : (s.setIen v).cfg = s.cfg := rfl
@[simp] theorem State.setIen_agenda (s : State) (v : Bool) : (s.setIen v).agenda = s.agenda := rfl
@[simp] theorem State.setIen_iface (s : State) (v : Bool) (c : SelectCode) : (s.setIen v).iface c = s.iface c := rfl
@[simp] theorem State.setIen_reg (s : State) (v : Bool) (r : Reg) : (s.setIen v).reg r = s.reg r := by cases r <;> rfl

/-! setSreg -/

@[simp] theorem State.setSreg_a (s : State) (v : Word) : (s.setSreg v).a = s.a := rfl
@[simp] theorem State.setSreg_b (s : State) (v : Word) : (s.setSreg v).b = s.b := rfl
@[simp] theorem State.setSreg_e (s : State) (v : Word) : (s.setSreg v).e = s.e := rfl
@[simp] theorem State.setSreg_o (s : State) (v : Word) : (s.setSreg v).o = s.o := rfl
@[simp] theorem State.setSreg_p (s : State) (v : Word) : (s.setSreg v).p = s.p := rfl
@[simp] theorem State.setSreg_fa (s : State) (v : Word) : (s.setSreg v).fa = s.fa := rfl
@[simp] theorem State.setSreg_run (s : State) (v : Word) : (s.setSreg v).run = s.run := rfl
@[simp] theorem State.setSreg_ien (s : State) (v : Word) : (s.setSreg v).ien = s.ien := rfl
@[simp] theorem State.setSreg_sreg (s : State) (v : Word) : (s.setSreg v).sreg = v := rfl
@[simp] theorem State.setSreg_cir (s : State) (v : Word) : (s.setSreg v).cir = s.cir := rfl
@[simp] theorem State.setSreg_slots (s : State) (v : Word) : (s.setSreg v).slots = s.slots := rfl
@[simp] theorem State.setSreg_dma (s : State) (v : Word) : (s.setSreg v).dma = s.dma := rfl
@[simp] theorem State.setSreg_guard (s : State) (v : Word) : (s.setSreg v).guard = s.guard := rfl
@[simp] theorem State.setSreg_mem (s : State) (v : Word) : (s.setSreg v).mem = s.mem := rfl
@[simp] theorem State.setSreg_cfg (s : State) (v : Word) : (s.setSreg v).cfg = s.cfg := rfl
@[simp] theorem State.setSreg_agenda (s : State) (v : Word) : (s.setSreg v).agenda = s.agenda := rfl
@[simp] theorem State.setSreg_iface (s : State) (v : Word) (c : SelectCode) : (s.setSreg v).iface c = s.iface c := rfl
@[simp] theorem State.setSreg_reg (s : State) (v : Word) (r : Reg) : (s.setSreg v).reg r = s.reg r := by cases r <;> rfl

/-! setCir -/

@[simp] theorem State.setCir_a (s : State) (v : SelectCode) : (s.setCir v).a = s.a := rfl
@[simp] theorem State.setCir_b (s : State) (v : SelectCode) : (s.setCir v).b = s.b := rfl
@[simp] theorem State.setCir_e (s : State) (v : SelectCode) : (s.setCir v).e = s.e := rfl
@[simp] theorem State.setCir_o (s : State) (v : SelectCode) : (s.setCir v).o = s.o := rfl
@[simp] theorem State.setCir_p (s : State) (v : SelectCode) : (s.setCir v).p = s.p := rfl
@[simp] theorem State.setCir_fa (s : State) (v : SelectCode) : (s.setCir v).fa = s.fa := rfl
@[simp] theorem State.setCir_run (s : State) (v : SelectCode) : (s.setCir v).run = s.run := rfl
@[simp] theorem State.setCir_ien (s : State) (v : SelectCode) : (s.setCir v).ien = s.ien := rfl
@[simp] theorem State.setCir_sreg (s : State) (v : SelectCode) : (s.setCir v).sreg = s.sreg := rfl
@[simp] theorem State.setCir_cir (s : State) (v : SelectCode) : (s.setCir v).cir = v := rfl
@[simp] theorem State.setCir_slots (s : State) (v : SelectCode) : (s.setCir v).slots = s.slots := rfl
@[simp] theorem State.setCir_dma (s : State) (v : SelectCode) : (s.setCir v).dma = s.dma := rfl
@[simp] theorem State.setCir_guard (s : State) (v : SelectCode) : (s.setCir v).guard = s.guard := rfl
@[simp] theorem State.setCir_mem (s : State) (v : SelectCode) : (s.setCir v).mem = s.mem := rfl
@[simp] theorem State.setCir_cfg (s : State) (v : SelectCode) : (s.setCir v).cfg = s.cfg := rfl
@[simp] theorem State.setCir_agenda (s : State) (v : SelectCode) : (s.setCir v).agenda = s.agenda := rfl
@[simp] theorem State.setCir_iface (s : State) (v : SelectCode) (c : SelectCode) : (s.setCir v).iface c = s.iface c := rfl
@[simp] theorem State.setCir_reg (s : State) (v : SelectCode) (r : Reg) : (s.setCir v).reg r = s.reg r := by cases r <;> rfl

/-! setMem -/

@[simp] theorem State.setMem_a (s : State) (v : Memory) : (s.setMem v).a = s.a := rfl
@[simp] theorem State.setMem_b (s : State) (v : Memory) : (s.setMem v).b = s.b := rfl
@[simp] theorem State.setMem_e (s : State) (v : Memory) : (s.setMem v).e = s.e := rfl
@[simp] theorem State.setMem_o (s : State) (v : Memory) : (s.setMem v).o = s.o := rfl
@[simp] theorem State.setMem_p (s : State) (v : Memory) : (s.setMem v).p = s.p := rfl
@[simp] theorem State.setMem_fa (s : State) (v : Memory) : (s.setMem v).fa = s.fa := rfl
@[simp] theorem State.setMem_run (s : State) (v : Memory) : (s.setMem v).run = s.run := rfl
@[simp] theorem State.setMem_ien (s : State) (v : Memory) : (s.setMem v).ien = s.ien := rfl
@[simp] theorem State.setMem_sreg (s : State) (v : Memory) : (s.setMem v).sreg = s.sreg := rfl
@[simp] theorem State.setMem_cir (s : State) (v : Memory) : (s.setMem v).cir = s.cir := rfl
@[simp] theorem State.setMem_slots (s : State) (v : Memory) : (s.setMem v).slots = s.slots := rfl
@[simp] theorem State.setMem_dma (s : State) (v : Memory) : (s.setMem v).dma = s.dma := rfl
@[simp] theorem State.setMem_guard (s : State) (v : Memory) : (s.setMem v).guard = s.guard := rfl
@[simp] theorem State.setMem_mem (s : State) (v : Memory) : (s.setMem v).mem = v := rfl
@[simp] theorem State.setMem_cfg (s : State) (v : Memory) : (s.setMem v).cfg = s.cfg := rfl
@[simp] theorem State.setMem_agenda (s : State) (v : Memory) : (s.setMem v).agenda = s.agenda := rfl
@[simp] theorem State.setMem_iface (s : State) (v : Memory) (c : SelectCode) : (s.setMem v).iface c = s.iface c := rfl
@[simp] theorem State.setMem_reg (s : State) (v : Memory) (r : Reg) : (s.setMem v).reg r = s.reg r := by cases r <;> rfl

/-! setDma -/

@[simp] theorem State.setDma_a (s : State) (v : Option DmaBoard) : (s.setDma v).a = s.a := rfl
@[simp] theorem State.setDma_b (s : State) (v : Option DmaBoard) : (s.setDma v).b = s.b := rfl
@[simp] theorem State.setDma_e (s : State) (v : Option DmaBoard) : (s.setDma v).e = s.e := rfl
@[simp] theorem State.setDma_o (s : State) (v : Option DmaBoard) : (s.setDma v).o = s.o := rfl
@[simp] theorem State.setDma_p (s : State) (v : Option DmaBoard) : (s.setDma v).p = s.p := rfl
@[simp] theorem State.setDma_fa (s : State) (v : Option DmaBoard) : (s.setDma v).fa = s.fa := rfl
@[simp] theorem State.setDma_run (s : State) (v : Option DmaBoard) : (s.setDma v).run = s.run := rfl
@[simp] theorem State.setDma_ien (s : State) (v : Option DmaBoard) : (s.setDma v).ien = s.ien := rfl
@[simp] theorem State.setDma_sreg (s : State) (v : Option DmaBoard) : (s.setDma v).sreg = s.sreg := rfl
@[simp] theorem State.setDma_cir (s : State) (v : Option DmaBoard) : (s.setDma v).cir = s.cir := rfl
@[simp] theorem State.setDma_slots (s : State) (v : Option DmaBoard) : (s.setDma v).slots = s.slots := rfl
@[simp] theorem State.setDma_dma (s : State) (v : Option DmaBoard) : (s.setDma v).dma = v := rfl
@[simp] theorem State.setDma_guard (s : State) (v : Option DmaBoard) : (s.setDma v).guard = s.guard := rfl
@[simp] theorem State.setDma_mem (s : State) (v : Option DmaBoard) : (s.setDma v).mem = s.mem := rfl
@[simp] theorem State.setDma_cfg (s : State) (v : Option DmaBoard) : (s.setDma v).cfg = s.cfg := rfl
@[simp] theorem State.setDma_agenda (s : State) (v : Option DmaBoard) : (s.setDma v).agenda = s.agenda := rfl
@[simp] theorem State.setDma_iface (s : State) (v : Option DmaBoard) (c : SelectCode) : (s.setDma v).iface c = s.iface c := rfl
@[simp] theorem State.setDma_reg (s : State) (v : Option DmaBoard) (r : Reg) : (s.setDma v).reg r = s.reg r := by cases r <;> rfl

/-! setGuard -/

@[simp] theorem State.setGuard_a (s : State) (v : Option GuardBoard) : (s.setGuard v).a = s.a := rfl
@[simp] theorem State.setGuard_b (s : State) (v : Option GuardBoard) : (s.setGuard v).b = s.b := rfl
@[simp] theorem State.setGuard_e (s : State) (v : Option GuardBoard) : (s.setGuard v).e = s.e := rfl
@[simp] theorem State.setGuard_o (s : State) (v : Option GuardBoard) : (s.setGuard v).o = s.o := rfl
@[simp] theorem State.setGuard_p (s : State) (v : Option GuardBoard) : (s.setGuard v).p = s.p := rfl
@[simp] theorem State.setGuard_fa (s : State) (v : Option GuardBoard) : (s.setGuard v).fa = s.fa := rfl
@[simp] theorem State.setGuard_run (s : State) (v : Option GuardBoard) : (s.setGuard v).run = s.run := rfl
@[simp] theorem State.setGuard_ien (s : State) (v : Option GuardBoard) : (s.setGuard v).ien = s.ien := rfl
@[simp] theorem State.setGuard_sreg (s : State) (v : Option GuardBoard) : (s.setGuard v).sreg = s.sreg := rfl
@[simp] theorem State.setGuard_cir (s : State) (v : Option GuardBoard) : (s.setGuard v).cir = s.cir := rfl
@[simp] theorem State.setGuard_slots (s : State) (v : Option GuardBoard) : (s.setGuard v).slots = s.slots := rfl
@[simp] theorem State.setGuard_dma (s : State) (v : Option GuardBoard) : (s.setGuard v).dma = s.dma := rfl
@[simp] theorem State.setGuard_guard (s : State) (v : Option GuardBoard) : (s.setGuard v).guard = v := rfl
@[simp] theorem State.setGuard_mem (s : State) (v : Option GuardBoard) : (s.setGuard v).mem = s.mem := rfl
@[simp] theorem State.setGuard_cfg (s : State) (v : Option GuardBoard) : (s.setGuard v).cfg = s.cfg := rfl
@[simp] theorem State.setGuard_agenda (s : State) (v : Option GuardBoard) : (s.setGuard v).agenda = s.agenda := rfl
@[simp] theorem State.setGuard_iface (s : State) (v : Option GuardBoard) (c : SelectCode) : (s.setGuard v).iface c = s.iface c := rfl
@[simp] theorem State.setGuard_reg (s : State) (v : Option GuardBoard) (r : Reg) : (s.setGuard v).reg r = s.reg r := by cases r <;> rfl

/-! setSlots -/

@[simp] theorem State.setSlots_a (s : State) (v : Vector (Option Interface) 64) : (s.setSlots v).a = s.a := rfl
@[simp] theorem State.setSlots_b (s : State) (v : Vector (Option Interface) 64) : (s.setSlots v).b = s.b := rfl
@[simp] theorem State.setSlots_e (s : State) (v : Vector (Option Interface) 64) : (s.setSlots v).e = s.e := rfl
@[simp] theorem State.setSlots_o (s : State) (v : Vector (Option Interface) 64) : (s.setSlots v).o = s.o := rfl
@[simp] theorem State.setSlots_p (s : State) (v : Vector (Option Interface) 64) : (s.setSlots v).p = s.p := rfl
@[simp] theorem State.setSlots_fa (s : State) (v : Vector (Option Interface) 64) : (s.setSlots v).fa = s.fa := rfl
@[simp] theorem State.setSlots_run (s : State) (v : Vector (Option Interface) 64) : (s.setSlots v).run = s.run := rfl
@[simp] theorem State.setSlots_ien (s : State) (v : Vector (Option Interface) 64) : (s.setSlots v).ien = s.ien := rfl
@[simp] theorem State.setSlots_sreg (s : State) (v : Vector (Option Interface) 64) : (s.setSlots v).sreg = s.sreg := rfl
@[simp] theorem State.setSlots_cir (s : State) (v : Vector (Option Interface) 64) : (s.setSlots v).cir = s.cir := rfl
@[simp] theorem State.setSlots_slots (s : State) (v : Vector (Option Interface) 64) : (s.setSlots v).slots = v := rfl
@[simp] theorem State.setSlots_dma (s : State) (v : Vector (Option Interface) 64) : (s.setSlots v).dma = s.dma := rfl
@[simp] theorem State.setSlots_guard (s : State) (v : Vector (Option Interface) 64) : (s.setSlots v).guard = s.guard := rfl
@[simp] theorem State.setSlots_mem (s : State) (v : Vector (Option Interface) 64) : (s.setSlots v).mem = s.mem := rfl
@[simp] theorem State.setSlots_cfg (s : State) (v : Vector (Option Interface) 64) : (s.setSlots v).cfg = s.cfg := rfl
@[simp] theorem State.setSlots_agenda (s : State) (v : Vector (Option Interface) 64) : (s.setSlots v).agenda = s.agenda := rfl
@[simp] theorem State.setSlots_reg (s : State) (v : Vector (Option Interface) 64) (r : Reg) : (s.setSlots v).reg r = s.reg r := by cases r <;> rfl

/-! setReg -/

@[simp] theorem State.setReg_A_a (s : State) (v : Word) : (s.setReg .A v).a = v := rfl
@[simp] theorem State.setReg_A_b (s : State) (v : Word) : (s.setReg .A v).b = s.b := rfl
@[simp] theorem State.setReg_B_a (s : State) (v : Word) : (s.setReg .B v).a = s.a := rfl
@[simp] theorem State.setReg_B_b (s : State) (v : Word) : (s.setReg .B v).b = v := rfl
@[simp] theorem State.setReg_e (s : State) (r : Reg) (v : Word) : (s.setReg r v).e = s.e := by cases r <;> rfl
@[simp] theorem State.setReg_o (s : State) (r : Reg) (v : Word) : (s.setReg r v).o = s.o := by cases r <;> rfl
@[simp] theorem State.setReg_p (s : State) (r : Reg) (v : Word) : (s.setReg r v).p = s.p := by cases r <;> rfl
@[simp] theorem State.setReg_fa (s : State) (r : Reg) (v : Word) : (s.setReg r v).fa = s.fa := by cases r <;> rfl
@[simp] theorem State.setReg_run (s : State) (r : Reg) (v : Word) : (s.setReg r v).run = s.run := by cases r <;> rfl
@[simp] theorem State.setReg_ien (s : State) (r : Reg) (v : Word) : (s.setReg r v).ien = s.ien := by cases r <;> rfl
@[simp] theorem State.setReg_sreg (s : State) (r : Reg) (v : Word) : (s.setReg r v).sreg = s.sreg := by cases r <;> rfl
@[simp] theorem State.setReg_cir (s : State) (r : Reg) (v : Word) : (s.setReg r v).cir = s.cir := by cases r <;> rfl
@[simp] theorem State.setReg_slots (s : State) (r : Reg) (v : Word) : (s.setReg r v).slots = s.slots := by cases r <;> rfl
@[simp] theorem State.setReg_dma (s : State) (r : Reg) (v : Word) : (s.setReg r v).dma = s.dma := by cases r <;> rfl
@[simp] theorem State.setReg_guard (s : State) (r : Reg) (v : Word) : (s.setReg r v).guard = s.guard := by cases r <;> rfl
@[simp] theorem State.setReg_mem (s : State) (r : Reg) (v : Word) : (s.setReg r v).mem = s.mem := by cases r <;> rfl
@[simp] theorem State.setReg_cfg (s : State) (r : Reg) (v : Word) : (s.setReg r v).cfg = s.cfg := by cases r <;> rfl
@[simp] theorem State.setReg_agenda (s : State) (r : Reg) (v : Word) : (s.setReg r v).agenda = s.agenda := by cases r <;> rfl
@[simp] theorem State.setReg_iface (s : State) (r : Reg) (v : Word) (c : SelectCode) : (s.setReg r v).iface c = s.iface c := by cases r <;> rfl
@[simp] theorem State.setReg_reg (s : State) (r : Reg) (v : Word) : (s.setReg r v).reg r = v := by cases r <;> rfl
@[simp] theorem State.reg_A (s : State) : s.reg .A = s.a := rfl
@[simp] theorem State.reg_B (s : State) : s.reg .B = s.b := rfl

/-! setIface -/

@[simp] theorem State.setIface_a (s : State) (c : SelectCode) (d : Interface) : (s.setIface c d).a = s.a := rfl
@[simp] theorem State.setIface_b (s : State) (c : SelectCode) (d : Interface) : (s.setIface c d).b = s.b := rfl
@[simp] theorem State.setIface_e (s : State) (c : SelectCode) (d : Interface) : (s.setIface c d).e = s.e := rfl
@[simp] theorem State.setIface_o (s : State) (c : SelectCode) (d : Interface) : (s.setIface c d).o = s.o := rfl
@[simp] theorem State.setIface_p (s : State) (c : SelectCode) (d : Interface) : (s.setIface c d).p = s.p := rfl
@[simp] theorem State.setIface_fa (s : State) (c : SelectCode) (d : Interface) : (s.setIface c d).fa = s.fa := rfl
@[simp] theorem State.setIface_run (s : State) (c : SelectCode) (d : Interface) : (s.setIface c d).run = s.run := rfl
@[simp] theorem State.setIface_ien (s : State) (c : SelectCode) (d : Interface) : (s.setIface c d).ien = s.ien := rfl
@[simp] theorem State.setIface_sreg (s : State) (c : SelectCode) (d : Interface) : (s.setIface c d).sreg = s.sreg := rfl
@[simp] theorem State.setIface_cir (s : State) (c : SelectCode) (d : Interface) : (s.setIface c d).cir = s.cir := rfl
@[simp] theorem State.setIface_dma (s : State) (c : SelectCode) (d : Interface) : (s.setIface c d).dma = s.dma := rfl
@[simp] theorem State.setIface_guard (s : State) (c : SelectCode) (d : Interface) : (s.setIface c d).guard = s.guard := rfl
@[simp] theorem State.setIface_mem (s : State) (c : SelectCode) (d : Interface) : (s.setIface c d).mem = s.mem := rfl
@[simp] theorem State.setIface_cfg (s : State) (c : SelectCode) (d : Interface) : (s.setIface c d).cfg = s.cfg := rfl
@[simp] theorem State.setIface_agenda (s : State) (c : SelectCode) (d : Interface) : (s.setIface c d).agenda = s.agenda := rfl
@[simp] theorem State.setIface_reg (s : State) (c : SelectCode) (d : Interface) (r : Reg) : (s.setIface c d).reg r = s.reg r := by cases r <;> rfl

/-! skip and skipIf -/

@[simp] theorem State.skip_a (s : State) : s.skip.a = s.a := rfl
@[simp] theorem State.skip_b (s : State) : s.skip.b = s.b := rfl
@[simp] theorem State.skip_e (s : State) : s.skip.e = s.e := rfl
@[simp] theorem State.skip_o (s : State) : s.skip.o = s.o := rfl
@[simp] theorem State.skip_p (s : State) : s.skip.p = s.p + 1 := rfl
@[simp] theorem State.skip_fa (s : State) : s.skip.fa = s.fa := rfl
@[simp] theorem State.skip_run (s : State) : s.skip.run = s.run := rfl
@[simp] theorem State.skip_ien (s : State) : s.skip.ien = s.ien := rfl
@[simp] theorem State.skip_sreg (s : State) : s.skip.sreg = s.sreg := rfl
@[simp] theorem State.skip_cir (s : State) : s.skip.cir = s.cir := rfl
@[simp] theorem State.skip_slots (s : State) : s.skip.slots = s.slots := rfl
@[simp] theorem State.skip_dma (s : State) : s.skip.dma = s.dma := rfl
@[simp] theorem State.skip_guard (s : State) : s.skip.guard = s.guard := rfl
@[simp] theorem State.skip_mem (s : State) : s.skip.mem = s.mem := rfl
@[simp] theorem State.skip_cfg (s : State) : s.skip.cfg = s.cfg := rfl
@[simp] theorem State.skip_agenda (s : State) : s.skip.agenda = s.agenda := rfl
@[simp] theorem State.skipIf_a (s : State) (c : Bool) : (s.skipIf c).a = s.a := by cases c <;> rfl
@[simp] theorem State.skipIf_b (s : State) (c : Bool) : (s.skipIf c).b = s.b := by cases c <;> rfl
@[simp] theorem State.skipIf_e (s : State) (c : Bool) : (s.skipIf c).e = s.e := by cases c <;> rfl
@[simp] theorem State.skipIf_o (s : State) (c : Bool) : (s.skipIf c).o = s.o := by cases c <;> rfl
@[simp] theorem State.skipIf_p (s : State) (c : Bool) : (s.skipIf c).p = (if c then s.p + 1 else s.p) := by cases c <;> rfl
@[simp] theorem State.skipIf_fa (s : State) (c : Bool) : (s.skipIf c).fa = s.fa := by cases c <;> rfl
@[simp] theorem State.skipIf_run (s : State) (c : Bool) : (s.skipIf c).run = s.run := by cases c <;> rfl
@[simp] theorem State.skipIf_ien (s : State) (c : Bool) : (s.skipIf c).ien = s.ien := by cases c <;> rfl
@[simp] theorem State.skipIf_sreg (s : State) (c : Bool) : (s.skipIf c).sreg = s.sreg := by cases c <;> rfl
@[simp] theorem State.skipIf_cir (s : State) (c : Bool) : (s.skipIf c).cir = s.cir := by cases c <;> rfl
@[simp] theorem State.skipIf_slots (s : State) (c : Bool) : (s.skipIf c).slots = s.slots := by cases c <;> rfl
@[simp] theorem State.skipIf_dma (s : State) (c : Bool) : (s.skipIf c).dma = s.dma := by cases c <;> rfl
@[simp] theorem State.skipIf_guard (s : State) (c : Bool) : (s.skipIf c).guard = s.guard := by cases c <;> rfl
@[simp] theorem State.skipIf_mem (s : State) (c : Bool) : (s.skipIf c).mem = s.mem := by cases c <;> rfl
@[simp] theorem State.skipIf_cfg (s : State) (c : Bool) : (s.skipIf c).cfg = s.cfg := by cases c <;> rfl
@[simp] theorem State.skipIf_agenda (s : State) (c : Bool) : (s.skipIf c).agenda = s.agenda := by cases c <;> rfl
@[simp] theorem State.skipIf_iface (s : State) (c : Bool) (k : SelectCode) : (s.skipIf c).iface k = s.iface k := by cases c <;> rfl

/-! setSticky and addToReg -/

@[simp] theorem State.setSticky_a (s : State) (c v : Bool) : (s.setSticky c v).a = s.a := rfl
@[simp] theorem State.setSticky_b (s : State) (c v : Bool) : (s.setSticky c v).b = s.b := rfl
@[simp] theorem State.setSticky_e (s : State) (c v : Bool) : (s.setSticky c v).e = (s.e || c) := rfl
@[simp] theorem State.setSticky_o (s : State) (c v : Bool) : (s.setSticky c v).o = (s.o || v) := rfl
@[simp] theorem State.setSticky_p (s : State) (c v : Bool) : (s.setSticky c v).p = s.p := rfl
@[simp] theorem State.setSticky_fa (s : State) (c v : Bool) : (s.setSticky c v).fa = s.fa := rfl
@[simp] theorem State.setSticky_run (s : State) (c v : Bool) : (s.setSticky c v).run = s.run := rfl
@[simp] theorem State.setSticky_ien (s : State) (c v : Bool) : (s.setSticky c v).ien = s.ien := rfl
@[simp] theorem State.setSticky_sreg (s : State) (c v : Bool) : (s.setSticky c v).sreg = s.sreg := rfl
@[simp] theorem State.setSticky_cir (s : State) (c v : Bool) : (s.setSticky c v).cir = s.cir := rfl
@[simp] theorem State.setSticky_slots (s : State) (c v : Bool) : (s.setSticky c v).slots = s.slots := rfl
@[simp] theorem State.setSticky_dma (s : State) (c v : Bool) : (s.setSticky c v).dma = s.dma := rfl
@[simp] theorem State.setSticky_guard (s : State) (c v : Bool) : (s.setSticky c v).guard = s.guard := rfl
@[simp] theorem State.setSticky_mem (s : State) (c v : Bool) : (s.setSticky c v).mem = s.mem := rfl
@[simp] theorem State.setSticky_cfg (s : State) (c v : Bool) : (s.setSticky c v).cfg = s.cfg := rfl
@[simp] theorem State.setSticky_agenda (s : State) (c v : Bool) : (s.setSticky c v).agenda = s.agenda := rfl
@[simp] theorem State.setSticky_iface (s : State) (c v : Bool) (k : SelectCode) : (s.setSticky c v).iface k = s.iface k := rfl
@[simp] theorem State.setSticky_reg (s : State) (c v : Bool) (r : Reg) : (s.setSticky c v).reg r = s.reg r := by cases r <;> rfl

/-- Two states with equal fields are equal. -/
theorem State.ext_fields {s t : State} (ha : s.a = t.a) (hb : s.b = t.b) (he : s.e = t.e) (ho : s.o = t.o)
    (hp : s.p = t.p) (hfa : s.fa = t.fa) (hrun : s.run = t.run) (hien : s.ien = t.ien) (hs : s.sreg = t.sreg)
    (hcir : s.cir = t.cir) (hslots : s.slots = t.slots) (hdma : s.dma = t.dma) (hguard : s.guard = t.guard)
    (hmem : s.mem = t.mem) (hcfg : s.cfg = t.cfg) (hag : s.agenda = t.agenda) : s = t := by
  cases s; cases t; simp_all

end Sys2Proof.Machine
end

