-- ==== Sys2Proof/Laws/Ops.lean ====
section
/-! SUPPORT. What each shared operation can do, said once: sequencing, memory accesses, interfaces, interrupts,
agents. -/

namespace Sys2Proof.Machine

@[simp] theorem andThen_next {α β : Type} (v : α) (f : α → Res β) : andThen (.next v) f = f v := rfl
@[simp] theorem andThen_fault {α β : Type} (r : Fault) (f : α → Res β) : andThen (.fault r) f = .fault r := rfl
@[simp] theorem andThen_refused {α β : Type} (r : Refusal) (f : α → Res β) : andThen (.refused r) f = .refused r := rfl

/-- A sequence answers only where its first part does. -/
theorem andThen_eq_next {α β : Type} {x : Res α} {f : α → Res β} {b : β} :
    andThen x f = .next b ↔ ∃ v, x = .next v ∧ f v = .next b := by
  cases x <;> simp

/-! ## Memory accesses -/

@[simp] theorem memRead_zero (s : State) : memRead s 0#15 = .next s.a := rfl
@[simp] theorem memRead_one (s : State) : memRead s 1#15 = .next s.b := rfl
@[simp] theorem memWrite_zero (s : State) (v : Word) : memWrite s 0#15 v = .next (s.setReg .A v) := rfl
@[simp] theorem memWrite_one (s : State) (v : Word) : memWrite s 1#15 v = .next (s.setReg .B v) := rfl

theorem memRead_cell {s : State} {a : Addr} (h0 : a ≠ 0) (h1 : a ≠ 1) (h : a.toNat < s.cfg.memWords) :
    memRead s a = .next (s.mem.wordAt a) := by
  unfold memRead; rw [if_neg h0, if_neg h1, if_pos h]

theorem memWrite_cell {s : State} {a : Addr} (v : Word) (h0 : a ≠ 0) (h1 : a ≠ 1) (h : a.toNat < s.cfg.memWords) :
    memWrite s a v = .next (s.setMem (s.mem.setWord a v)) := by
  unfold memWrite; rw [if_neg h0, if_neg h1, if_pos h]

theorem memRead_absent {s : State} {a : Addr} (h : ¬ s.hasAddr a) :
    memRead s a = .refused (.memoryNotInstalled a) := by
  simp only [State.hasAddr, not_or] at h
  unfold memRead; rw [if_neg h.1, if_neg h.2.1, if_neg h.2.2]

theorem memWrite_absent {s : State} {a : Addr} (v : Word) (h : ¬ s.hasAddr a) :
    memWrite s a v = .refused (.memoryNotInstalled a) := by
  simp only [State.hasAddr, not_or] at h
  unfold memWrite; rw [if_neg h.1, if_neg h.2.1, if_neg h.2.2]

/-- A read answers exactly at the addresses that exist. -/
theorem memRead_next_iff {s : State} {a : Addr} : (∃ v, memRead s a = .next v) ↔ s.hasAddr a := by
  constructor
  · rintro ⟨v, hv⟩
    by_contra h
    rw [memRead_absent h] at hv; cases hv
  · intro h
    by_cases h0 : a = 0
    · exact ⟨_, by rw [h0]; rfl⟩
    · by_cases h1 : a = 1
      · exact ⟨_, by rw [h1]; rfl⟩
      · exact ⟨_, memRead_cell h0 h1 ((h.resolve_left h0).resolve_left h1)⟩

/-- What a write can do: a register at 0 and 1, a word of the installed memory elsewhere. -/
theorem memWrite_cases {s t : State} {a : Addr} {v : Word} (h : memWrite s a v = .next t) :
    (a = 0 ∧ t = s.setReg .A v) ∨ (a = 1 ∧ t = s.setReg .B v) ∨
    (a ≠ 0 ∧ a ≠ 1 ∧ a.toNat < s.cfg.memWords ∧ t = s.setMem (s.mem.setWord a v)) := by
  unfold memWrite at h
  split at h
  · exact .inl ⟨‹_›, by cases h; rfl⟩
  · split at h
    · exact .inr (.inl ⟨‹_›, by cases h; rfl⟩)
    · split at h
      · exact .inr (.inr ⟨‹_›, ‹_›, ‹_›, by cases h; rfl⟩)
      · cases h

/-- A write answers at every address that exists. -/
theorem memWrite_next {s : State} {a : Addr} (v : Word) (h : s.hasAddr a) : ∃ t, memWrite s a v = .next t := by
  by_cases h0 : a = 0
  · exact ⟨_, by rw [h0]; rfl⟩
  · by_cases h1 : a = 1
    · exact ⟨_, by rw [h1]; rfl⟩
    · exact ⟨_, memWrite_cell v h0 h1 ((h.resolve_left h0).resolve_left h1)⟩

/-! ## Interfaces -/

@[simp] theorem iface_setIface (s : State) (c k : SelectCode) (d : Interface) :
    (s.setIface c d).iface k = if k = c then some d else s.iface k := by
  unfold State.iface State.setIface
  simp only [Vector.getElem_set]
  by_cases h : k = c
  · subst h; simp
  · have : ¬ c.toNat = k.toNat := fun e => h (BitVec.eq_of_toNat_eq e.symm)
    simp [h, this]

theorem setFlag_flag (d : Interface) (v : Bool) : (d.setFlag v).flag = v := rfl
theorem setFlag_ack (d : Interface) (v : Bool) : (d.setFlag v).ack = (d.ack && v) := rfl

@[simp] theorem setFlag_true (d : Interface) : d.setFlag true = { d with flag := true } := by
  simp [Interface.setFlag]
@[simp] theorem setFlag_false (d : Interface) : d.setFlag false = { d with flag := false, ack := false } := by
  simp [Interface.setFlag]
@[simp] theorem setCtl_true (d : Interface) : d.setCtl true = { d with ctl := true } := by
  simp [Interface.setCtl]
@[simp] theorem setCtl_false (d : Interface) : d.setCtl false = { d with ctl := false, ack := false } := by
  simp [Interface.setCtl]

/-- A change of every interface, on one. -/
theorem getElem_mapInterfaces (f : Interface → Interface) (v : Vector (Option Interface) 64) (i : Nat) (h : i < 64) :
    (mapInterfaces f v)[i] = v[i].map f := by simp [mapInterfaces]

/-- CLC 00 on one interface. -/
@[simp] theorem clearControls_iface (s : State) (k : SelectCode) :
    (clearControls s).iface k = (s.iface k).map (fun d => d.setCtl false) := by
  simp [clearControls, State.iface, State.setSlots, State.setDma, getElem_mapInterfaces]

/-! ## Interrupts -/

/-- A channel requests exactly when its interface's flag and control bit are set. -/
theorem requests_iff {s : State} {c : SelectCode} :
    s.requests c = true ↔ 8 ≤ c.toNat ∧ ∃ d, s.iface c = some d ∧ d.flag = true ∧ d.ctl = true := by
  unfold State.requests
  cases h : s.iface c <;> simp [Interface.requests]

/-- The channel considered is the lowest that requests. -/
theorem lowestRequest_eq_some {s : State} {c : SelectCode} :
    s.lowestRequest = some c ↔
      s.requests c = true ∧ ∀ k : SelectCode, k.toNat < c.toNat → s.requests k = false := by
  unfold State.lowestRequest selectCodes
  rw [List.find?_map, Option.map_eq_some_iff]
  constructor
  · rintro ⟨n, hn, rfl⟩
    rw [List.find?_range_eq_some] at hn
    obtain ⟨hp, hmem, hlt⟩ := hn
    have hn64 : n < 64 := by simpa using hmem
    refine ⟨hp, fun k hk => ?_⟩
    have hk' : k.toNat < n := by
      rwa [BitVec.toNat_ofNat, Nat.mod_eq_of_lt (by omega)] at hk
    have := hlt k.toNat hk'
    simpa using this
  · rintro ⟨hp, hlt⟩
    refine ⟨c.toNat, ?_, by simp⟩
    rw [List.find?_range_eq_some]
    refine ⟨by simpa using hp, by simpa using c.isLt, fun j hj => ?_⟩
    have hj64 : j < 64 := lt_trans hj c.isLt
    have := hlt (BitVec.ofNat 6 j) (by rw [BitVec.toNat_ofNat, Nat.mod_eq_of_lt (by omega)]; exact hj)
    simpa using this

/-- When an interrupt is pending, the channel's interface requests and is not acknowledged. -/
theorem pendingInterrupt_some {s : State} {c : SelectCode} (h : s.pendingInterrupt = some c) :
    s.ien = true ∧ s.lowestRequest = some c ∧ ∃ d, s.iface c = some d ∧ d.ack = false := by
  unfold State.pendingInterrupt at h
  split at h
  · split at h
    · cases h
    · split at h
      · cases h
      · split at h
        · cases h
        · cases h
          rename_i hien _ _ d hack hlow hd
          exact ⟨hien, hlow, d, hd, by simpa using hack⟩
  · cases h

/-- Taking an interrupt writes CIR, the fetch address and the channel's mark, and nothing else. -/
theorem takeInterrupt_eq {s : State} {c : SelectCode} {d : Interface} (h : s.iface c = some d) :
    takeInterrupt c s = ((s.setCir c).setFa (c.setWidth 15)).setIface c { d with ack := true } := by
  simp [takeInterrupt, h]

/-! ## Agents -/

/-- What one action of an agent can do: change one installed interface's flag or input register, or S. -/
theorem agentAct_cases (s : State) (x : AgentAction) :
    agentAct s x = s ∨ (∃ v, agentAct s x = s.setSreg v) ∨
    ∃ c d d', s.iface c = some d ∧ agentAct s x = s.setIface c d' ∧
      (d' = { d with flag := true } ∨ ∃ v, d' = { d with ibuf := v }) := by
  cases x with
  | setFlag c =>
    cases h : s.iface c with
    | none => exact .inl (by simp [agentAct, h])
    | some d => exact .inr (.inr ⟨c, d, _, h, by simp only [agentAct, h], .inl rfl⟩)
  | writeIbuf c v =>
    cases h : s.iface c with
    | none => exact .inl (by simp [agentAct, h])
    | some d => exact .inr (.inr ⟨c, d, _, h, by simp only [agentAct, h], .inr ⟨v, rfl⟩⟩)
  | setSwitches v => exact .inr (.inl ⟨v, rfl⟩)

/-- With an empty agenda the agents change nothing. -/
theorem agentsAct_nil {s : State} (h : s.agenda = []) : agentsAct s = s := by simp [agentsAct, h]

/-- The first list of the agenda is done, in order, and taken off. -/
theorem agentsAct_cons {s : State} {acts : List AgentAction} {rest : List (List AgentAction)}
    (h : s.agenda = acts :: rest) : agentsAct s = { acts.foldl agentAct s with agenda := rest } := by
  simp [agentsAct, h]

/-- A property that one action of an agent and the popping of the agenda keep, holds after the agents have acted. -/
theorem agentsAct_induction {P : State → Prop} {s : State} (hs : P s) (hact : ∀ s x, P s → P (agentAct s x))
    (hpop : ∀ s l, P s → P { s with agenda := l }) : P (agentsAct s) := by
  unfold agentsAct
  split
  · exact hs
  · rename_i acts rest _
    have : ∀ (l : List AgentAction) (u : State), P u → P (l.foldl agentAct u) := by
      intro l
      induction l with
      | nil => exact fun u hu => hu
      | cons x l ih => exact fun u hu => ih _ (hact _ _ hu)
    exact hpop _ _ (this acts s hs)

end Sys2Proof.Machine
end

