-- ==== Sys2Proof/Laws/Channels.lean ====
section
/-! SUPPORT. What each channel access function of R171 can do, said once. -/

namespace Sys2Proof.Machine

theorem channelKind_interface {sc : SelectCode} (h : 8 ≤ sc.toNat) : channelKind sc = .interface := by
  revert h; revert sc; decide

theorem channelKind_eq_interface {sc : SelectCode} (h : channelKind sc = .interface) : 8 ≤ sc.toNat := by
  revert h; revert sc; decide

theorem channelKind_eq_system {sc : SelectCode} (h : channelKind sc = .system) : sc = 0 := by
  revert h; revert sc; decide

theorem channelKind_eq_panel {sc : SelectCode} (h : channelKind sc = .panel) : sc = 1 := by
  revert h; revert sc; decide

@[simp] theorem channelKind_0 : channelKind 0#6 = .system := rfl
@[simp] theorem channelKind_1 : channelKind 1#6 = .panel := rfl
@[simp] theorem channelKind_2 : channelKind 2#6 = .dmaControl .one := rfl
@[simp] theorem channelKind_4 : channelKind 4#6 = .lastInterrupt := rfl
@[simp] theorem channelKind_5 : channelKind 5#6 = .guard := rfl
@[simp] theorem channelKind_6 : channelKind 6#6 = .dmaDevice .one := rfl

/-- Changing an interface answers where one is installed. -/
theorem updateIface_eq_next {sc : SelectCode} {s t : State} {f : Interface → Interface} :
    updateIface sc s f = .next t ↔ ∃ d, s.iface sc = some d ∧ t = s.setIface sc (f d) := by
  unfold updateIface noFunction
  cases s.iface sc <;> simp [eq_comm]

/-- Changing DMA registers answers where the board is installed. -/
theorem updateDma_eq_next {sc : SelectCode} {n : DmaNumber} {s t : State} {f : DmaChannel → DmaChannel} :
    updateDma sc n s f = .next t ↔ ∃ b, s.dma = some b ∧ t = s.setDma (some (b.setChan n (f (b.chan n)))) := by
  unfold updateDma noFunction
  cases s.dma <;> simp [eq_comm]

/-! ## The boards behind select code 05 -/

section
variable {g h : GuardBoard} {p : ProtectRegs} {q : ParityRegs} {e : Word}

@[simp] theorem protect_of_protect : GuardBoard.protect ⟨.protect p, e⟩ = some p := rfl
@[simp] theorem protect_of_parity : GuardBoard.protect ⟨.parity q, e⟩ = none := rfl
@[simp] theorem protect_of_both : GuardBoard.protect ⟨.both p q, e⟩ = some p := rfl
@[simp] theorem parity_of_protect : GuardBoard.parity ⟨.protect p, e⟩ = none := rfl
@[simp] theorem parity_of_parity : GuardBoard.parity ⟨.parity q, e⟩ = some q := rfl
@[simp] theorem parity_of_both : GuardBoard.parity ⟨.both p q, e⟩ = some q := rfl

/-- The same boards are installed behind 05. -/
def GuardBoard.sameBoards (g h : GuardBoard) : Prop :=
  h.protect.isSome = g.protect.isSome ∧ h.parity.isSome = g.parity.isSome

/-- What a change of the protect registers does: it answers where that board is installed, and changes nothing else. -/
theorem updateProtect_eq_some {f : ProtectRegs → ProtectRegs} (hg : g.updateProtect f = some h) :
    ∃ p, g.protect = some p ∧ h.protect = some (f p) ∧ h.parity = g.parity ∧ h.error = g.error := by
  obtain ⟨_ | _ | _, e⟩ := g <;> simp [GuardBoard.updateProtect] at hg <;> subst hg <;> simp

/-- What a change of the parity register does: it answers where that board is installed, and changes nothing else. -/
theorem updateParity_eq_some {f : ParityRegs → ParityRegs} (hg : g.updateParity f = some h) :
    ∃ q, g.parity = some q ∧ h.parity = some (f q) ∧ h.protect = g.protect ∧ h.error = g.error := by
  obtain ⟨_ | _ | _, e⟩ := g <;> simp [GuardBoard.updateParity] at hg <;> subst hg <;> simp

theorem updateProtect_sameBoards {f : ProtectRegs → ProtectRegs} (hg : g.updateProtect f = some h) :
    g.sameBoards h := by
  obtain ⟨p, hp, hp', hq, -⟩ := updateProtect_eq_some hg
  simp [GuardBoard.sameBoards, hp, hp', hq]

theorem updateParity_sameBoards {f : ParityRegs → ParityRegs} (hg : g.updateParity f = some h) :
    g.sameBoards h := by
  obtain ⟨q, hq, hq', hp, -⟩ := updateParity_eq_some hg
  simp [GuardBoard.sameBoards, hq, hq', hp]

end

/-- Changing a register behind 05 answers where its board is installed. -/
theorem updateGuard_eq_next {sc : SelectCode} {s t : State} {f : GuardBoard → Option GuardBoard} :
    updateGuard sc s f = .next t ↔ ∃ g h, s.guard = some g ∧ f g = some h ∧ t = s.setGuard (some h) := by
  unfold updateGuard noFunction
  cases s.guard with
  | none => simp
  | some g => cases hf : f g <;> simp [hf, eq_comm]

/-- What a step of a channel function can do to an option board. -/
def boardStep (s t : State) : Prop :=
  (∃ b b', s.dma = some b ∧ t = s.setDma (some b')) ∨
  (∃ g h, s.guard = some g ∧ g.sameBoards h ∧ t = s.setGuard (some h))

/-- What `SetFlag` can do. -/
theorem setFlag_cases {sc : SelectCode} {v : Bool} {s t : State} (h : setFlag sc v s = .next t) :
    (sc = 0 ∧ t = s.setIen v) ∨ (sc = 1 ∧ t = s.setO v) ∨ boardStep s t ∨
    (8 ≤ sc.toNat ∧ ∃ d, s.iface sc = some d ∧ t = s.setIface sc (d.setFlag v)) := by
  unfold setFlag at h
  split at h
  · cases h; exact .inl ⟨channelKind_eq_system ‹_›, rfl⟩
  · cases h; exact .inr (.inl ⟨channelKind_eq_panel ‹_›, rfl⟩)
  · obtain ⟨b, hb, rfl⟩ := updateDma_eq_next.mp h; exact .inr (.inr (.inl (.inl ⟨b, _, hb, rfl⟩)))
  · cases h
  · obtain ⟨g, g', hg, hf, rfl⟩ := updateGuard_eq_next.mp h
    exact .inr (.inr (.inl (.inr ⟨g, g', hg, updateParity_sameBoards hf, rfl⟩)))
  · obtain ⟨b, hb, rfl⟩ := updateDma_eq_next.mp h; exact .inr (.inr (.inl (.inl ⟨b, _, hb, rfl⟩)))
  · exact .inr (.inr (.inr ⟨channelKind_eq_interface ‹_›, updateIface_eq_next.mp h⟩))

/-- What `SetCtl` can do. -/
theorem setCtl_cases {sc : SelectCode} {v : Bool} {s t : State} (h : setCtl sc v s = .next t) :
    (sc = 0 ∧ t = if v then s else clearControls s) ∨ (sc = 1 ∧ t = s) ∨ boardStep s t ∨
    (8 ≤ sc.toNat ∧ ∃ d, s.iface sc = some d ∧ t = s.setIface sc (d.setCtl v)) := by
  unfold setCtl at h
  split at h
  · cases h; exact .inl ⟨channelKind_eq_system ‹_›, rfl⟩
  · cases h; exact .inr (.inl ⟨channelKind_eq_panel ‹_›, rfl⟩)
  · obtain ⟨b, hb, rfl⟩ := updateDma_eq_next.mp h; exact .inr (.inr (.inl (.inl ⟨b, _, hb, rfl⟩)))
  · cases h
  · obtain ⟨g, g', hg, hf, rfl⟩ := updateGuard_eq_next.mp h
    exact .inr (.inr (.inl (.inr ⟨g, g', hg, updateProtect_sameBoards hf, rfl⟩)))
  · obtain ⟨u, hu, ht⟩ := andThen_eq_next.mp h
    obtain ⟨b, hb, rfl⟩ := updateDma_eq_next.mp hu
    split at ht
    · cases ht
    · cases ht; exact .inr (.inr (.inl (.inl ⟨b, _, hb, rfl⟩)))
  · exact .inr (.inr (.inr ⟨channelKind_eq_interface ‹_›, updateIface_eq_next.mp h⟩))

/-- What `Output` can do. -/
theorem output_cases {sc : SelectCode} {v : Word} {s t : State} (h : output sc v s = .next t) :
    (sc = 0 ∧ t = s) ∨ (sc = 1 ∧ t = if hasSRegister s.cfg then s.setSreg v else s) ∨ boardStep s t ∨
    (8 ≤ sc.toNat ∧ ∃ d, s.iface sc = some d ∧ t = s.setIface sc { d with obuf := v }) := by
  unfold output at h
  split at h
  · cases h; exact .inl ⟨channelKind_eq_system ‹_›, rfl⟩
  · cases h; exact .inr (.inl ⟨channelKind_eq_panel ‹_›, rfl⟩)
  · obtain ⟨b, hb, rfl⟩ := updateDma_eq_next.mp h; exact .inr (.inr (.inl (.inl ⟨b, _, hb, rfl⟩)))
  · cases h
  · obtain ⟨g, g', hg, hf, rfl⟩ := updateGuard_eq_next.mp h
    exact .inr (.inr (.inl (.inr ⟨g, g', hg, updateProtect_sameBoards hf, rfl⟩)))
  · obtain ⟨b, hb, rfl⟩ := updateDma_eq_next.mp h; exact .inr (.inr (.inl (.inl ⟨b, _, hb, rfl⟩)))
  · exact .inr (.inr (.inr ⟨channelKind_eq_interface ‹_›, updateIface_eq_next.mp h⟩))

/-! ## An installed interface -/

section
variable {sc : SelectCode} {s : State} {d : Interface}

theorem getFlag_interface (h : 8 ≤ sc.toNat) (hd : s.iface sc = some d) : getFlag sc s = .next d.flag := by
  simp [getFlag, channelKind_interface h, hd, readPart]

theorem setFlag_interface (h : 8 ≤ sc.toNat) (hd : s.iface sc = some d) (v : Bool) :
    setFlag sc v s = .next (s.setIface sc (d.setFlag v)) := by
  simp [setFlag, channelKind_interface h, hd, updateIface]

theorem setCtl_interface (h : 8 ≤ sc.toNat) (hd : s.iface sc = some d) (v : Bool) :
    setCtl sc v s = .next (s.setIface sc (d.setCtl v)) := by
  simp [setCtl, channelKind_interface h, hd, updateIface]

theorem input_interface (h : 8 ≤ sc.toNat) (hd : s.iface sc = some d) : input sc s = .next d.ibuf := by
  simp [input, channelKind_interface h, hd, readPart]

theorem output_interface (h : 8 ≤ sc.toNat) (hd : s.iface sc = some d) (v : Word) :
    output sc v s = .next (s.setIface sc { d with obuf := v }) := by
  simp [output, channelKind_interface h, hd, updateIface]

end

end Sys2Proof.Machine
end

