-- ==== Sys2Proof/Laws/Decode.lean ====
section
/-! SUPPORT. The fields of the four word formats: each is read back from the word it was written into. -/

namespace Sys2Proof

theorem regOfBit_regBit (r : Reg) : regOfBit (regBit r)[0] = r := by cases r <;> rfl

theorem shiftOfBits_shiftBits (c : ShiftCode) : shiftOfBits (shiftBits c) = c := by cases c <;> rfl

theorem alterOfBits_alterBits (op : AlterOp) : alterOfBits (alterBits op) = op := by cases op <;> rfl

/-- A field that lies in the low part of a word. -/
theorem extract_append_low {n m : Nat} (x : BitVec n) (y : BitVec m) {lo len : Nat} (h : lo + len ≤ m) :
    (x ++ y).extractLsb' lo len = y.extractLsb' lo len := by
  apply BitVec.eq_of_getLsbD_eq
  intro i hi
  simp only [BitVec.getLsbD_extractLsb', BitVec.getLsbD_append]
  simp [hi, show lo + i < m by omega]

/-- A field that lies in the high part of a word. -/
theorem extract_append_high {n m : Nat} (x : BitVec n) (y : BitVec m) {lo len : Nat} (h : m ≤ lo) :
    (x ++ y).extractLsb' lo len = x.extractLsb' (lo - m) len := by
  apply BitVec.eq_of_getLsbD_eq
  intro i hi
  simp only [BitVec.getLsbD_extractLsb', BitVec.getLsbD_append]
  simp [hi, show ¬ lo + i < m by omega, show lo + i - m = lo - m + i by omega]

/-- The whole of a vector as a field. -/
theorem extract_all {n : Nat} (x : BitVec n) : x.extractLsb' 0 n = x := by
  apply BitVec.eq_of_getLsbD_eq
  intro i hi
  simp [hi]

/-! Simplify with the lemmas on `++` before `simp` computes the widths: with a computed width they no longer match. -/

/-- A shift-rotate word gives its fields back (R84). -/
theorem srgFields_encodeSrg (w : SrgWord) : srgFields (encodeSrg w) = w := by
  obtain ⟨r, ⟨e1, c1⟩, cle, sl, ⟨e2, c2⟩⟩ := w
  have h1 : field (encodeSrg ⟨r, ⟨e1, c1⟩, cle, sl, ⟨e2, c2⟩⟩) 6 3 = shiftBits c1 := by
    unfold field encodeSrg
    rw [extract_append_high _ _ (by decide), extract_append_high _ _ (by decide), extract_append_high _ _ (by decide),
      extract_append_high _ _ (by decide), extract_append_low _ _ (by decide)]
    exact extract_all _
  have h2 : field (encodeSrg ⟨r, ⟨e1, c1⟩, cle, sl, ⟨e2, c2⟩⟩) 0 3 = shiftBits c2 := by
    unfold field encodeSrg
    rw [extract_append_low _ _ (by decide)]
    exact extract_all _
  simp only [srgFields, h1, h2, shiftOfBits_shiftBits]
  simp only [bit, encodeSrg, BitVec.getLsbD_append, ofFlag]
  simp [regOfBit_regBit]

/-- An alter-skip word gives its fields back (R86). -/
theorem asgFields_encodeAsg (w : AsgWord) : asgFields (encodeAsg w) = w := by
  obtain ⟨r, rop, sez, eop, ss, sl, inc, sz, rss⟩ := w
  have h1 : field (encodeAsg ⟨r, rop, sez, eop, ss, sl, inc, sz, rss⟩) 8 2 = alterBits rop := by
    unfold field encodeAsg
    iterate 7 rw [extract_append_high _ _ (by decide)]
    rw [extract_append_low _ _ (by decide)]
    exact extract_all _
  have h2 : field (encodeAsg ⟨r, rop, sez, eop, ss, sl, inc, sz, rss⟩) 6 2 = alterBits eop := by
    unfold field encodeAsg
    iterate 6 rw [extract_append_high _ _ (by decide)]
    rw [extract_append_low _ _ (by decide)]
    exact extract_all _
  simp only [asgFields, h1, h2, alterOfBits_alterBits]
  simp only [bit, encodeAsg, BitVec.getLsbD_append, ofFlag]
  simp [regOfBit_regBit]

/-- An input/output word gives its fields back (R87). -/
theorem encodeIog_fields (r f : Bool) (sub : BitVec 3) (sc : SelectCode) :
    bit (encodeIog r f sub sc) 11 = r ∧ bit (encodeIog r f sub sc) 9 = f ∧
    field (encodeIog r f sub sc) 6 3 = sub ∧ field (encodeIog r f sub sc) 0 6 = sc := by
  refine ⟨?_, ?_, ?_, ?_⟩
  · simp only [bit, encodeIog, BitVec.getLsbD_append, ofFlag]; simp
  · simp only [bit, encodeIog, BitVec.getLsbD_append, ofFlag]; simp
  · unfold field encodeIog
    rw [extract_append_high _ _ (by decide), extract_append_low _ _ (by decide)]
    exact extract_all _
  · unfold field encodeIog
    rw [extract_append_low _ _ (by decide)]
    exact extract_all _

/-- A memory reference word gives its fields back (R82, R83). -/
theorem encodeMrg_fields (op : BitVec 4) (x : MemRef) :
    field (encodeMrg op x) 11 4 = op ∧ memRef (encodeMrg op x) = x := by
  constructor
  · unfold field encodeMrg
    rw [extract_append_high _ _ (by decide), extract_append_high _ _ (by decide), extract_append_low _ _ (by decide)]
    exact extract_all _
  · obtain ⟨i, p, m⟩ := x
    have h : field (encodeMrg op ⟨i, p, m⟩) 0 10 = m := by
      unfold field encodeMrg
      rw [extract_append_low _ _ (by decide)]
      exact extract_all _
    simp only [memRef, h]
    simp only [bit, encodeMrg, BitVec.getLsbD_append, ofFlag]
    simp

end Sys2Proof
end

