-- ==== Sys2Proof/Laws/Exec.lean ====
section
/-! SUPPORT. What an instruction can do, said once: every meaning is made of the primitive updates below, so a
property that each of them keeps is kept by every instruction. -/

namespace Sys2Proof.Machine

/-- The changes an instruction makes to an interface. -/
def ifaceStep (d d' : Interface) : Prop := (∃ v, d' = d.setFlag v) ∨ (∃ v, d' = d.setCtl v) ∨ ∃ v, d' = { d with obuf := v }

/-- A property of states that every primitive update of an instruction keeps. -/
structure KeptByUpdates (P : State → Prop) : Prop where
  reg : ∀ s r v, P s → P (s.setReg r v)
  e : ∀ s v, P s → P (s.setE v)
  o : ∀ s v, P s → P (s.setO v)
  p : ∀ s v, P s → P (s.setP v)
  halt : ∀ s, P s → P (s.setRun false)
  ien : ∀ s v, P s → P (s.setIen v)
  sreg : ∀ s v, P s → P (s.setSreg v)
  mem : ∀ s a v, a ≠ 0 → a ≠ 1 → a.toNat < s.cfg.memWords → P s → P (s.setMem (s.mem.setWord a v))
  iface : ∀ s c d d', 8 ≤ c.toNat → s.iface c = some d → ifaceStep d d' → P s → P (s.setIface c d')
  clear : ∀ s, P s → P (clearControls s)
  board : ∀ s t, boardStep s t → P s → P t

namespace KeptByUpdates

variable {P : State → Prop} (K : KeptByUpdates P) {s t : State}
include K

theorem skipIf (c : Bool) (h : P s) : P (s.skipIf c) := by
  cases c
  · exact h
  · exact K.p _ _ h

theorem memWrite {a : Addr} {v : Word} (h : P s) (e : memWrite s a v = .next t) : P t := by
  rcases memWrite_cases e with ⟨-, rfl⟩ | ⟨-, rfl⟩ | ⟨h0, h1, h2, rfl⟩
  · exact K.reg _ _ _ h
  · exact K.reg _ _ _ h
  · exact K.mem _ _ _ h0 h1 h2 h

theorem setFlag {sc : SelectCode} {v : Bool} (h : P s) (e : setFlag sc v s = .next t) : P t := by
  rcases setFlag_cases e with ⟨-, rfl⟩ | ⟨-, rfl⟩ | hb | ⟨h8, d, hd, rfl⟩
  · exact K.ien _ _ h
  · exact K.o _ _ h
  · exact K.board _ _ hb h
  · exact K.iface _ _ _ _ h8 hd (.inl ⟨v, rfl⟩) h

theorem setCtl {sc : SelectCode} {v : Bool} (h : P s) (e : setCtl sc v s = .next t) : P t := by
  rcases setCtl_cases e with ⟨-, rfl⟩ | ⟨-, rfl⟩ | hb | ⟨h8, d, hd, rfl⟩
  · split
    · exact h
    · exact K.clear _ h
  · exact h
  · exact K.board _ _ hb h
  · exact K.iface _ _ _ _ h8 hd (.inr (.inl ⟨v, rfl⟩)) h

theorem output {sc : SelectCode} {v : Word} (h : P s) (e : output sc v s = .next t) : P t := by
  rcases output_cases e with ⟨-, rfl⟩ | ⟨-, rfl⟩ | hb | ⟨h8, d, hd, rfl⟩
  · exact h
  · split
    · exact K.sreg _ _ h
    · exact h
  · exact K.board _ _ hb h
  · exact K.iface _ _ _ _ h8 hd (.inr (.inr ⟨v, rfl⟩)) h

theorem clearIf {f : Bool} {sc : SelectCode} (h : P s) (e : clearIf f sc s = .next t) : P t := by
  unfold Machine.clearIf at e
  split at e
  · exact K.setFlag h e
  · cases e; exact h

theorem addToReg (r : Reg) (v : Word) (h : P s) : P (addToReg r v s) := K.o _ _ (K.e _ _ (K.reg _ _ _ h))

theorem runShiftRotate {w : SrgWord} (h : P s) (e : runShiftRotate w s = .next t) : P t := by
  cases e; exact K.skipIf _ (K.e _ _ (K.reg _ _ _ h))

theorem runAlterSkip {w : AsgWord} (h : P s) (e : runAlterSkip w s = .next t) : P t := by
  cases e
  refine K.skipIf _ ?_
  split
  · exact K.addToReg _ _ (K.e _ _ (K.reg _ _ _ h))
  · exact K.e _ _ (K.reg _ _ _ h)

theorem skipOnFlag {want f : Bool} {sc : SelectCode} (h : P s) (e : skipOnFlag want f sc s = .next t) : P t := by
  obtain ⟨v, -, e⟩ := andThen_eq_next.mp e
  obtain ⟨u, hu, e⟩ := andThen_eq_next.mp e
  cases e; exact K.skipIf _ (K.clearIf h hu)

theorem skipOnFlagListed {want f : Bool} {sc : SelectCode} (h : P s) (e : skipOnFlagListed want f sc s = .next t) :
    P t := by
  unfold Machine.skipOnFlagListed at e
  split at e
  · cases e
  · exact K.skipOnFlag h e

theorem mergeInput {r : Reg} {f : Bool} {sc : SelectCode} (h : P s) (e : mergeInput r f sc s = .next t) : P t := by
  obtain ⟨v, -, e⟩ := andThen_eq_next.mp e; exact K.clearIf (K.reg _ _ _ h) e

theorem loadInput {r : Reg} {f : Bool} {sc : SelectCode} (h : P s) (e : loadInput r f sc s = .next t) : P t := by
  obtain ⟨v, -, e⟩ := andThen_eq_next.mp e; exact K.clearIf (K.reg _ _ _ h) e

theorem outputReg {r : Reg} {f : Bool} {sc : SelectCode} (h : P s) (e : outputReg r f sc s = .next t) : P t := by
  obtain ⟨u, hu, e⟩ := andThen_eq_next.mp e; exact K.clearIf (K.output h hu) e

theorem writeControl {v f : Bool} {sc : SelectCode} (h : P s) (e : writeControl v f sc s = .next t) : P t := by
  obtain ⟨u, hu, e⟩ := andThen_eq_next.mp e; exact K.clearIf (K.setCtl h hu) e

theorem halt' {f : Bool} {sc : SelectCode} (h : P s) (e : Machine.halt f sc s = .next t) : P t :=
  K.clearIf (K.halt _ h) e

theorem loadMem {r : Reg} {x : MemRef} (h : P s) (e : loadMem r x s = .next t) : P t := by
  obtain ⟨v, -, e⟩ := andThen_eq_next.mp e; cases e; exact K.reg _ _ _ h

theorem storeMem {r : Reg} {x : MemRef} (h : P s) (e : storeMem r x s = .next t) : P t := by
  obtain ⟨m, -, e⟩ := andThen_eq_next.mp e; exact K.memWrite h e

theorem addMem {r : Reg} {x : MemRef} (h : P s) (e : addMem r x s = .next t) : P t := by
  obtain ⟨v, -, e⟩ := andThen_eq_next.mp e; cases e; exact K.addToReg _ _ h

theorem compareMem {r : Reg} {x : MemRef} (h : P s) (e : compareMem r x s = .next t) : P t := by
  obtain ⟨v, -, e⟩ := andThen_eq_next.mp e; cases e; exact K.skipIf _ h

theorem combineA {f : Word → Word → Word} {x : MemRef} (h : P s) (e : combineA f x s = .next t) : P t := by
  obtain ⟨v, -, e⟩ := andThen_eq_next.mp e; cases e; exact K.reg _ _ _ h

theorem incrementSkip {x : MemRef} (h : P s) (e : incrementSkip x s = .next t) : P t := by
  obtain ⟨m, -, e⟩ := andThen_eq_next.mp e
  obtain ⟨v, -, e⟩ := andThen_eq_next.mp e
  obtain ⟨u, hu, e⟩ := andThen_eq_next.mp e
  cases e; exact K.skipIf _ (K.memWrite h hu)

theorem jump {x : MemRef} (h : P s) (e : jump x s = .next t) : P t := by
  obtain ⟨m, -, e⟩ := andThen_eq_next.mp e; cases e; exact K.p _ _ h

theorem jumpSubroutine {x : MemRef} (h : P s) (e : jumpSubroutine x s = .next t) : P t := by
  obtain ⟨m, -, e⟩ := andThen_eq_next.mp e
  obtain ⟨u, hu, e⟩ := andThen_eq_next.mp e
  cases e; exact K.p _ _ (K.memWrite h hu)

/-- Every instruction keeps what its primitive updates keep. -/
theorem exec (i : Instr) (h : P s) (e : exec i s = .next t) : P t := by
  cases i with
  | hlt f sc => exact K.halt' h e
  | stf sc => exact K.setFlag h e
  | clf sc => exact K.setFlag h e
  | sto => exact K.setFlag (sc := 1) (v := true) h e
  | clo => exact K.setFlag (sc := 1) (v := false) h e
  | sfc f sc => exact K.skipOnFlagListed h e
  | sfs f sc => exact K.skipOnFlagListed h e
  | sos f => exact K.skipOnFlag (want := true) (f := f) (sc := 1) h e
  | soc f => exact K.skipOnFlag (want := false) (f := f) (sc := 1) h e
  | mia f sc => exact K.mergeInput h e
  | mib f sc => exact K.mergeInput h e
  | lia f sc => exact K.loadInput h e
  | lib f sc => exact K.loadInput h e
  | ota f sc => exact K.outputReg h e
  | otb f sc => exact K.outputReg h e
  | stc f sc => exact K.writeControl h e
  | clc f sc => exact K.writeControl h e
  | and x => exact K.combineA h e
  | xor x => exact K.combineA h e
  | ior x => exact K.combineA h e
  | jsb x => exact K.jumpSubroutine h e
  | jmp x => exact K.jump h e
  | isz x => exact K.incrementSkip h e
  | ada x => exact K.addMem h e
  | adb x => exact K.addMem h e
  | cpa x => exact K.compareMem h e
  | cpb x => exact K.compareMem h e
  | lda x => exact K.loadMem h e
  | ldb x => exact K.loadMem h e
  | sta x => exact K.storeMem h e
  | stb x => exact K.storeMem h e
  | noEffectAsg => exact K.runAlterSkip h e
  | cla => exact K.runAlterSkip h e
  | clb => exact K.runAlterSkip h e
  | cma => exact K.runAlterSkip h e
  | cmb => exact K.runAlterSkip h e
  | cca => exact K.runAlterSkip h e
  | ccb => exact K.runAlterSkip h e
  | sez => exact K.runAlterSkip h e
  | cleAsg => exact K.runAlterSkip h e
  | cme => exact K.runAlterSkip h e
  | cce => exact K.runAlterSkip h e
  | ssa => exact K.runAlterSkip h e
  | ssb => exact K.runAlterSkip h e
  | slaAsg => exact K.runAlterSkip h e
  | slbAsg => exact K.runAlterSkip h e
  | ina => exact K.runAlterSkip h e
  | inb => exact K.runAlterSkip h e
  | sza => exact K.runAlterSkip h e
  | szb => exact K.runAlterSkip h e
  | rss => exact K.runAlterSkip h e
  | _ => exact K.runShiftRotate h e

end KeptByUpdates

/-- A step that answers: the machine runs, and the fetched word's instruction answers in the fetched state. -/
theorem step_eq_next {s t : State} (h : step s = .next t) :
    s.run = true ∧ ∃ i, exec i (fetched (agentsAct s)) = .next t := by
  unfold step at h
  split at h
  · obtain ⟨w, -, h⟩ := andThen_eq_next.mp h
    obtain ⟨i, -, h⟩ := andThen_eq_next.mp h
    exact ⟨‹_›, i, h⟩
  · cases h

end Sys2Proof.Machine
end

