-- ==== Sys2Proof/Laws/Fetch.lean ====
section
/-! SUPPORT. The fetch: where the word comes from and the state it is executed in, with and without an interrupt. -/

namespace Sys2Proof.Machine

theorem fetchAddr_none {s : State} (h : s.pendingInterrupt = none) : fetchAddr s = s.p := by simp [fetchAddr, h]

theorem fetchAddr_some {s : State} {c : SelectCode} (h : s.pendingInterrupt = some c) :
    fetchAddr s = c.setWidth 15 := by simp [fetchAddr, h]

/-- Without an interrupt P advances past the word (R14). -/
theorem fetched_none {s : State} (h : s.pendingInterrupt = none) : fetched s = (s.setFa s.p).setP (s.p + 1) := by
  simp [fetched, h]

/-- With one, P stays (R247). -/
theorem fetched_some {s : State} {c : SelectCode} (h : s.pendingInterrupt = some c) :
    fetched s = takeInterrupt c s := by simp [fetched, h]

/-- A fetched word is decoded, or refused as unlisted (R92). -/
theorem decodeFetched_eq_next {w : Word} {i : Instr} : decodeFetched w = .next i ↔ decode w = .ok i := by
  unfold decodeFetched
  split
  · rename_i j h; simp [h]
  · rename_i h; simp [h]

/-- A step that answers, with the word it ran. -/
theorem step_next_iff {s t : State} :
    step s = .next t ↔
      s.run = true ∧ ∃ w i, fetchWord (agentsAct s) = .next w ∧ decode w = .ok i ∧
        exec i (fetched (agentsAct s)) = .next t := by
  unfold step
  cases s.run
  · simp
  · simp [andThen_eq_next, decodeFetched_eq_next]

end Sys2Proof.Machine
end

