-- ==== Sys2Proof/Laws/InputOutput.lean ====
section
/-! SUPPORT. What the input/output operations can do, each said once: the main action, then the flag clear (R170). -/

namespace Sys2Proof.Machine

@[simp] theorem clearIf_false (sc : SelectCode) (s : State) : clearIf false sc s = .next s := rfl
@[simp] theorem clearIf_true (sc : SelectCode) (s : State) : clearIf true sc s = setFlag sc false s := rfl

theorem skipOnFlag_eq_next {want f : Bool} {sc : SelectCode} {s t : State} :
    skipOnFlag want f sc s = .next t ↔
      ∃ v u, getFlag sc s = .next v ∧ clearIf f sc s = .next u ∧ t = u.skipIf (v == want) := by
  simp only [skipOnFlag, andThen_eq_next, Host.Outcome.next.injEq]
  constructor
  · rintro ⟨v, hv, u, hu, rfl⟩; exact ⟨v, u, hv, hu, rfl⟩
  · rintro ⟨v, u, hv, hu, rfl⟩; exact ⟨v, hv, u, hu, rfl⟩

/-- Where SFC and SFS answer, their listed form or the parameter of R93 allows them. -/
theorem skipOnFlagListed_eq_next {want f : Bool} {sc : SelectCode} {s t : State} :
    skipOnFlagListed want f sc s = .next t ↔
      (f = false ∨ s.cfg.sfxClearForm = .testThenClear) ∧ skipOnFlag want f sc s = .next t := by
  cases f <;> cases h : s.cfg.sfxClearForm <;> simp [skipOnFlagListed, h]

theorem mergeInput_eq_next {r : Reg} {f : Bool} {sc : SelectCode} {s t : State} :
    mergeInput r f sc s = .next t ↔
      ∃ v, input sc s = .next v ∧ clearIf f sc (s.setReg r (s.reg r ||| v)) = .next t := andThen_eq_next

theorem loadInput_eq_next {r : Reg} {f : Bool} {sc : SelectCode} {s t : State} :
    loadInput r f sc s = .next t ↔ ∃ v, input sc s = .next v ∧ clearIf f sc (s.setReg r v) = .next t := andThen_eq_next

theorem outputReg_eq_next {r : Reg} {f : Bool} {sc : SelectCode} {s t : State} :
    outputReg r f sc s = .next t ↔ ∃ u, output sc (s.reg r) s = .next u ∧ clearIf f sc u = .next t := andThen_eq_next

theorem writeControl_eq_next {v f : Bool} {sc : SelectCode} {s t : State} :
    writeControl v f sc s = .next t ↔ ∃ u, setCtl sc v s = .next u ∧ clearIf f sc u = .next t := andThen_eq_next

end Sys2Proof.Machine
end

