-- ==== Sys2Proof/Laws/MemoryReference.lean ====
section
/-! SUPPORT. What the operands and the memory reference operations can do, each said once. -/

namespace Sys2Proof.Machine

/-- A read never faults: it answers or is refused. -/
theorem memRead_ne_fault (s : State) (a : Addr) (r : Fault) : memRead s a ≠ .fault r := by
  by_cases h : s.hasAddr a
  · obtain ⟨v, hv⟩ := memRead_next_iff.mpr h
    rw [hv]; simp
  · rw [memRead_absent h]; simp

theorem addrOf_eq_setWidth (w : Word) : addrOf w = w.setWidth 15 := by
  apply BitVec.eq_of_getLsbD_eq
  intro i hi
  simp [addrOf, hi]

/-- The address stored by JSB comes back (R220, R221). -/
theorem addrOf_setWidth (a : Addr) : addrOf (a.setWidth 16) = a := by
  rw [addrOf_eq_setWidth]
  apply BitVec.eq_of_toNat_eq
  rw [BitVec.toNat_setWidth, BitVec.toNat_setWidth]
  omega

/-- An exhausted chain is a hang (R59). -/
theorem followChain_zero (s : State) (a : Addr) : followChain s 0 a = .fault .indirectHang := rfl

/-- One level of a chain whose word could be read (R58). -/
theorem followChain_next {s : State} {n : Nat} {a : Addr} {w : Word} (h : memRead s a = .next w) :
    followChain s (n + 1) a =
      if w.getLsbD 15 && s.cfg.indirectMultilevel then followChain s n (addrOf w) else .next (addrOf w) := by
  rw [followChain, h, andThen_next]

/-- A chain stops where its word does. -/
theorem followChain_refused {s : State} {n : Nat} {a : Addr} {r : Refusal} (h : memRead s a = .refused r) :
    followChain s (n + 1) a = .refused r := by
  rw [followChain, h, andThen_refused]

theorem effectiveAddr_direct {s : State} {x : MemRef} (h : x.ind = false) :
    effectiveAddr s x = .next (directAddr x s.fa) := by simp [effectiveAddr, h]

theorem effectiveAddr_indirect {s : State} {x : MemRef} (h : x.ind = true) :
    effectiveAddr s x = followChain s chainFuel (directAddr x s.fa) := by simp [effectiveAddr, h]

/-- The operand is the word at the effective address (R210). -/
theorem operand_eq_next {s : State} {x : MemRef} {v : Word} :
    operand s x = .next v ↔ ∃ m, effectiveAddr s x = .next m ∧ memRead s m = .next v := andThen_eq_next

theorem loadMem_eq_next {r : Reg} {x : MemRef} {s t : State} :
    loadMem r x s = .next t ↔ ∃ v, operand s x = .next v ∧ t = s.setReg r v := by
  simp [loadMem, andThen_eq_next, @eq_comm _ _ t]

theorem storeMem_eq_next {r : Reg} {x : MemRef} {s t : State} :
    storeMem r x s = .next t ↔ ∃ m, effectiveAddr s x = .next m ∧ memWrite s m (s.reg r) = .next t := andThen_eq_next

theorem addMem_eq_next {r : Reg} {x : MemRef} {s t : State} :
    addMem r x s = .next t ↔ ∃ v, operand s x = .next v ∧ t = addToReg r v s := by
  simp [addMem, andThen_eq_next, @eq_comm _ _ t]

theorem compareMem_eq_next {r : Reg} {x : MemRef} {s t : State} :
    compareMem r x s = .next t ↔ ∃ v, operand s x = .next v ∧ t = s.skipIf (s.reg r != v) := by
  simp [compareMem, andThen_eq_next, @eq_comm _ _ t]

theorem combineA_eq_next {f : Word → Word → Word} {x : MemRef} {s t : State} :
    combineA f x s = .next t ↔ ∃ v, operand s x = .next v ∧ t = s.setReg .A (f s.a v) := by
  simp [combineA, andThen_eq_next, @eq_comm _ _ t]

theorem incrementSkip_eq_next {x : MemRef} {s t : State} :
    incrementSkip x s = .next t ↔
      ∃ m v u, effectiveAddr s x = .next m ∧ memRead s m = .next v ∧ memWrite s m (v + 1) = .next u ∧
        t = u.skipIf (v + 1 == 0) := by
  simp only [incrementSkip, andThen_eq_next, Host.Outcome.next.injEq]
  constructor
  · rintro ⟨m, hm, v, hv, u, hu, rfl⟩; exact ⟨m, v, u, hm, hv, hu, rfl⟩
  · rintro ⟨m, v, u, hm, hv, hu, rfl⟩; exact ⟨m, hm, v, hv, u, hu, rfl⟩

theorem jump_eq_next {x : MemRef} {s t : State} :
    jump x s = .next t ↔ ∃ m, effectiveAddr s x = .next m ∧ t = s.setP m := by
  simp [jump, andThen_eq_next, @eq_comm _ _ t]

theorem jumpSubroutine_eq_next {x : MemRef} {s t : State} :
    jumpSubroutine x s = .next t ↔
      ∃ m u, effectiveAddr s x = .next m ∧ memWrite s m (s.p.setWidth 16) = .next u ∧ t = u.setP (m + 1) := by
  simp only [jumpSubroutine, andThen_eq_next, Host.Outcome.next.injEq]
  constructor
  · rintro ⟨m, hm, u, hu, rfl⟩; exact ⟨m, u, hm, hu, rfl⟩
  · rintro ⟨m, u, hm, hu, rfl⟩; exact ⟨m, hm, u, hu, rfl⟩

end Sys2Proof.Machine
end

