-- ==== Sys2Proof/Laws/MicroInstructions.lean ====
section
/-! SUPPORT. What the shift-rotate and alter-skip executions can do: always a next state, in which one register, E, O
and P may differ. -/

namespace Sys2Proof.Machine

/-- A skip writes P alone. -/
theorem skipIf_eq (s : State) (c : Bool) : s.skipIf c = s.setP (if c then s.p + 1 else s.p) := by
  cases c <;> rfl

/-- A disabled position leaves the register, and E unless it is coded as a rotate with E (R123, R91). -/
theorem runSlot_idle {c : ShiftCode} (h : c.idle = true) (t : Word) (e : Bool) : runSlot ⟨false, c⟩ t e = (t, e) := by
  cases c <;> first | rfl | cases h

/-- The new E of a position does not depend on its enable bit (R111). -/
theorem runSlot_snd (p : Slot) (t : Word) (e : Bool) : (runSlot p t e).2 = (shiftValue p.code t e).2 := rfl

/-- A shift-rotate word writes its register and E, and may skip. -/
theorem runShiftRotate_eq (w : SrgWord) (s : State) :
    ∃ v e c, runShiftRotate w s = .next (((s.setReg w.r v).setE e).skipIf c) := ⟨_, _, _, rfl⟩

/-- An alter-skip word writes its register, E and O, and may skip; it writes O only with INr. -/
theorem runAlterSkip_eq (w : AsgWord) (s : State) :
    ∃ v e o c, runAlterSkip w s = .next ((((s.setReg w.r v).setE e).setO o).skipIf c) ∧ (w.inc = false → o = s.o) := by
  have alter : ∀ s1 : State, ∃ v e o, (if w.inc then addToReg w.r 1 s1 else s1) = ((s1.setReg w.r v).setE e).setO o ∧
      (w.inc = false → o = s1.o) := by
    intro s1
    cases w.inc
    · exact ⟨s1.reg w.r, s1.e, s1.o, by cases w.r <;> rfl, fun _ => rfl⟩
    · exact ⟨_, _, _, rfl, by simp⟩
  obtain ⟨v, e, o, h, ho⟩ := alter ((s.setReg w.r (alterWord w.rop (s.reg w.r))).setE (alterBit w.eop s.e))
  refine ⟨v, e, o, skipDecision w s.e (alterWord w.rop (s.reg w.r)) v, ?_, fun hi => by simpa using ho hi⟩
  rw [runAlterSkip]
  simp only [h]
  cases w.r <;> rfl

end Sys2Proof.Machine
end

