-- ==== Sys2Proof/Tests/Slice0.lean ====
section
/-! SUPPORT. Tests: what WellFormed refuses, words written out from the encoding tables, one step per instruction with
the values of the spec's vectors (section 2 of 95_test_vectors.md, or the same rule by hand for a form it does not
list), and a witness for the hypotheses of every statement. -/

namespace Sys2Proof.Tests

open Sys2Proof.Machine Sys2Proof.Statement

/-! ## What WellFormed refuses: one ill-formed term for each check -/

theorem test_wf_nop_is_not_empty_word : Instr.wf (.noEffectSrg .A .ls .ls) = false := by decide
theorem test_wf_empty_word_code : Instr.wf (.noEffectSrg .B .er .ls) = false ∧ Instr.wf (.noEffectSrg .A .rs .el) =
  false := by
  decide
theorem test_wf_cle_first_code : Instr.wf (.cleSrg .A .el false noSlot) = false := by decide
theorem test_wf_sl_first_code : Instr.wf (.slaSrg .er noSlot) = false ∧ Instr.wf (.slbSrg .el noSlot) = false := by
  decide
theorem test_wf_second_position_codes :
    (∀ k ∈ [Instr.als2, .bls2, .ars2, .brs2, .ral2, .rbl2, .rar2, .rbr2, .alr2, .blr2, .era2, .erb2, .ela2, .elb2,
      .alf2, .blf2, .eraDisabled2, .erbDisabled2, .elaDisabled2, .elbDisabled2],
      Instr.wf (k .er) = false ∧ Instr.wf (k .el) = false ∧ Instr.wf (k .lf) = true) := by decide
theorem test_wf_flag_instructions_off_01 :
    Instr.wf (.stf 1) = false ∧ Instr.wf (.clf 1) = false ∧ Instr.wf (.sfc true 1) = false ∧
    Instr.wf (.sfs false 1) = false ∧ Instr.wf (.stf 0) = true ∧ Instr.wf (.sfs false 2) = true := by decide

/-! ## Decoding: words written out from the encodings (R83, R85, R86, R88), one for every constructor -/

theorem test_decode_first_position :
    decode 0b0000001000000000 = .ok (.als1 false false noSlot) ∧
    decode 0b0000101000000000 = .ok (.bls1 false false noSlot) ∧
    decode 0b0000001001000000 = .ok (.ars1 false false noSlot) ∧
    decode 0b0000101001000000 = .ok (.brs1 false false noSlot) ∧
    decode 0b0000001010000000 = .ok (.ral1 false false noSlot) ∧
    decode 0b0000101010000000 = .ok (.rbl1 false false noSlot) ∧
    decode 0b0000001011000000 = .ok (.rar1 false false noSlot) ∧
    decode 0b0000101011000000 = .ok (.rbr1 false false noSlot) ∧
    decode 0b0000001100000000 = .ok (.alr1 false false noSlot) ∧
    decode 0b0000101100000000 = .ok (.blr1 false false noSlot) ∧
    decode 0b0000001101000000 = .ok (.era1 false false noSlot) ∧
    decode 0b0000101101000000 = .ok (.erb1 false false noSlot) ∧
    decode 0b0000001110000000 = .ok (.ela1 false false noSlot) ∧
    decode 0b0000101110000000 = .ok (.elb1 false false noSlot) ∧
    decode 0b0000001111000000 = .ok (.alf1 false false noSlot) ∧
    decode 0b0000101111000000 = .ok (.blf1 false false noSlot) := by decide

theorem test_decode_second_position :
    decode 0b0000000000010000 = .ok (.als2 .ls) ∧
    decode 0b0000100000010000 = .ok (.bls2 .ls) ∧
    decode 0b0000000000010001 = .ok (.ars2 .ls) ∧
    decode 0b0000100000010001 = .ok (.brs2 .ls) ∧
    decode 0b0000000000010010 = .ok (.ral2 .ls) ∧
    decode 0b0000100000010010 = .ok (.rbl2 .ls) ∧
    decode 0b0000000000010011 = .ok (.rar2 .ls) ∧
    decode 0b0000100000010011 = .ok (.rbr2 .ls) ∧
    decode 0b0000000000010100 = .ok (.alr2 .ls) ∧
    decode 0b0000100000010100 = .ok (.blr2 .ls) ∧
    decode 0b0000000000010101 = .ok (.era2 .ls) ∧
    decode 0b0000100000010101 = .ok (.erb2 .ls) ∧
    decode 0b0000000000010110 = .ok (.ela2 .ls) ∧
    decode 0b0000100000010110 = .ok (.elb2 .ls) ∧
    decode 0b0000000000010111 = .ok (.alf2 .ls) ∧
    decode 0b0000100000010111 = .ok (.blf2 .ls) := by decide

theorem test_decode_disabled_rotate :
    decode 0b0000000101000000 = .ok (.eraDisabled1 false false noSlot) ∧
    decode 0b0000000110000000 = .ok (.elaDisabled1 false false noSlot) ∧
    decode 0b0000100101000000 = .ok (.erbDisabled1 false false noSlot) ∧
    decode 0b0000100110000000 = .ok (.elbDisabled1 false false noSlot) ∧
    decode 0b0000000000000101 = .ok (.eraDisabled2 .ls) ∧
    decode 0b0000000000000110 = .ok (.elaDisabled2 .ls) ∧
    decode 0b0000100000000101 = .ok (.erbDisabled2 .ls) ∧
    decode 0b0000100000000110 = .ok (.elbDisabled2 .ls) := by decide

theorem test_decode_srg_other :
    decode 0b0000000000000000 = .ok (.nop) ∧
    decode 0b0000100000000000 = .ok (.noEffectSrg .B .ls .ls) ∧
    decode 0b0000000001000000 = .ok (.noEffectSrg .A .rs .ls) ∧
    decode 0b0000000000100000 = .ok (.cleSrg .A .ls false noSlot) ∧
    decode 0b0000100000100000 = .ok (.cleSrg .B .ls false noSlot) ∧
    decode 0b0000000000001000 = .ok (.slaSrg .ls noSlot) ∧
    decode 0b0000100000001000 = .ok (.slbSrg .ls noSlot) ∧
    decode 0b0000001010111010 = .ok (.ral1 true true ⟨true, .rl⟩) ∧
    decode 0b0000000000110101 = .ok (.cleSrg .A .ls false ⟨true, .er⟩) ∧
    decode 0b0000001111010111 = .ok (.alf1 false false ⟨true, .lf⟩) := by decide

theorem test_decode_asg :
    decode 0b0000010000000000 = .ok (.noEffectAsg .A) ∧
    decode 0b0000110000000000 = .ok (.noEffectAsg .B) ∧
    decode 0b0000010100000000 = .ok (.cla false .none false false false false false) ∧
    decode 0b0000110100000000 = .ok (.clb false .none false false false false false) ∧
    decode 0b0000011000000000 = .ok (.cma false .none false false false false false) ∧
    decode 0b0000111000000000 = .ok (.cmb false .none false false false false false) ∧
    decode 0b0000011100000000 = .ok (.cca false .none false false false false false) ∧
    decode 0b0000111100000000 = .ok (.ccb false .none false false false false false) ∧
    decode 0b0000010000100000 = .ok (.sez .A .none false false false false false) ∧
    decode 0b0000010001000000 = .ok (.cleAsg .A false false false false false) ∧
    decode 0b0000010010000000 = .ok (.cme .A false false false false false) ∧
    decode 0b0000010011000000 = .ok (.cce .A false false false false false) ∧
    decode 0b0000010000010000 = .ok (.ssa false false false false) ∧
    decode 0b0000110000010000 = .ok (.ssb false false false false) ∧
    decode 0b0000010000001000 = .ok (.slaAsg false false false) ∧
    decode 0b0000110000001000 = .ok (.slbAsg false false false) ∧
    decode 0b0000010000000100 = .ok (.ina false false) ∧
    decode 0b0000110000000100 = .ok (.inb false false) ∧
    decode 0b0000010000000010 = .ok (.sza false) ∧
    decode 0b0000110000000010 = .ok (.szb false) ∧
    decode 0b0000010000000001 = .ok (.rss .A) ∧
    decode 0b0000110000000001 = .ok (.rss .B) := by decide

theorem test_decode_asg_combined :
    decode 0b0000011111111111 = .ok (.cca true .clearComplement true true true true true) ∧
    decode 0b0000010010100000 = .ok (.sez .A .complement false false false false false) ∧
    decode 0b0000010000011011 = .ok (.ssa true false true true) ∧
    decode 0b0000010000000110 = .ok (.ina true false) ∧
    decode 0b0000010001000100 = .ok (.cleAsg .A false false true false false) := by decide

theorem test_decode_iog :
    decode 0b1000010000000000 = .ok (.hlt false 0o0) ∧
    decode 0b1000110000000000 = .ok (.hlt false 0o0) ∧
    decode 0b1000011000001000 = .ok (.hlt true 0o10) ∧
    decode 0b1000010001001000 = .ok (.stf 0o10) ∧
    decode 0b1000110001001000 = .ok (.stf 0o10) ∧
    decode 0b1000011001001000 = .ok (.clf 0o10) ∧
    decode 0b1000010010001000 = .ok (.sfc false 0o10) ∧
    decode 0b1000011010001000 = .ok (.sfc true 0o10) ∧
    decode 0b1000010011001000 = .ok (.sfs false 0o10) ∧
    decode 0b1000010100001000 = .ok (.mia false 0o10) ∧
    decode 0b1000110100001000 = .ok (.mib false 0o10) ∧
    decode 0b1000010101001000 = .ok (.lia false 0o10) ∧
    decode 0b1000111101001000 = .ok (.lib true 0o10) ∧
    decode 0b1000010110001000 = .ok (.ota false 0o10) ∧
    decode 0b1000110110111111 = .ok (.otb false 0o77) ∧
    decode 0b1000010111001000 = .ok (.stc false 0o10) ∧
    decode 0b1000111111001000 = .ok (.clc true 0o10) ∧
    decode 0b1000010001000001 = .ok (.sto) ∧
    decode 0b1000011001000001 = .ok (.clo) ∧
    decode 0b1000010010000001 = .ok (.soc false) ∧
    decode 0b1000011010000001 = .ok (.soc true) ∧
    decode 0b1000010011000001 = .ok (.sos false) ∧
    decode 0b1000111011000001 = .ok (.sos true) := by decide

theorem test_decode_mrg :
    decode 0b0001000001000000 = .ok (.and ⟨false, false, 0o100⟩) ∧
    decode 0b0001100001000000 = .ok (.jsb ⟨false, false, 0o100⟩) ∧
    decode 0b0010000001000000 = .ok (.xor ⟨false, false, 0o100⟩) ∧
    decode 0b0010100001000000 = .ok (.jmp ⟨false, false, 0o100⟩) ∧
    decode 0b0011000001000000 = .ok (.ior ⟨false, false, 0o100⟩) ∧
    decode 0b0011100001000000 = .ok (.isz ⟨false, false, 0o100⟩) ∧
    decode 0b0100000001000000 = .ok (.ada ⟨false, false, 0o100⟩) ∧
    decode 0b0100100001000000 = .ok (.adb ⟨false, false, 0o100⟩) ∧
    decode 0b0101000001000000 = .ok (.cpa ⟨false, false, 0o100⟩) ∧
    decode 0b0101100001000000 = .ok (.cpb ⟨false, false, 0o100⟩) ∧
    decode 0b0110000001000000 = .ok (.lda ⟨false, false, 0o100⟩) ∧
    decode 0b0110100001000000 = .ok (.ldb ⟨false, false, 0o100⟩) ∧
    decode 0b0111000001000000 = .ok (.sta ⟨false, false, 0o100⟩) ∧
    decode 0b0111100001000000 = .ok (.stb ⟨false, false, 0o100⟩) := by decide

theorem test_decode_mrg_operand :
    decode 0b1110000001000000 = .ok (.lda ⟨true, false, 0o100⟩) ∧
    decode 0b0110010001000000 = .ok (.lda ⟨false, true, 0o100⟩) ∧
    decode 0b1111111111111111 = .ok (.stb ⟨true, true, 0o1777⟩) := by decide

theorem test_decode_unlisted :
    decode 0b1000000000000000 = .error .unlisted ∧ decode 0b1000101111111111 = .error .unlisted := by decide

theorem test_table_word : decodeTableWord 16 0o102501 = some (.lia false 0o1) ∧ decodeTableWord 16 0o101000 = none :=
  by
  decide

/-! ## One step: the word is placed where the next step fetches -/

/-- What `f` reads after one step of the word `w` from `s`, if the step answers. -/
def after {α : Type} (w : Nat) (s : State) (f : State → α) : Option α :=
  match step (s.withFetchWord 16 w) with
  | .next t => some (f t)
  | .fault _ => none
  | .refused _ => none

/-- A, B, E, O and P. -/
structure Regs where
  a : Word
  b : Word
  e : Bool
  o : Bool
  p : Addr
  deriving DecidableEq

/-- The registers of a state. -/
def regs (s : State) : Regs := ⟨s.a, s.b, s.e, s.o, s.p⟩

/-- The launch state with these registers. -/
def start (a b : Word) (e o : Bool) : State := { State.reset with a, b, e, o }

/-- A word placed in memory. -/
def put (s : State) (a : Addr) (v : Word) : State := s.setMem (s.mem.setWord a v)

/-- The launch state with an interface at `sc`. -/
def device (sc : SelectCode) (d : Interface) : State := State.reset.setIface sc d

theorem test_step_als_bls :
    after 0o001000 (start 0o040001 0o012345 true false) regs = some ⟨0o000002, 0o012345, true, false, 0o2001⟩ ∧
    after 0o005000 (start 0o012345 0o040001 true false) regs = some ⟨0o012345, 0o000002, true, false, 0o2001⟩ ∧
    after 0o000020 (start 0o040001 0o012345 true false) regs = some ⟨0o000002, 0o012345, true, false, 0o2001⟩ ∧
    after 0o004020 (start 0o012345 0o040001 true false) regs = some ⟨0o012345, 0o000002, true, false, 0o2001⟩ := by
      decide

theorem test_step_ars_brs :
    after 0o001100 (start 0o100003 0o012345 true false) regs = some ⟨0o140001, 0o012345, true, false, 0o2001⟩ ∧
    after 0o005100 (start 0o012345 0o100003 true false) regs = some ⟨0o012345, 0o140001, true, false, 0o2001⟩ ∧
    after 0o000021 (start 0o100003 0o012345 true false) regs = some ⟨0o140001, 0o012345, true, false, 0o2001⟩ ∧
    after 0o004021 (start 0o012345 0o100003 true false) regs = some ⟨0o012345, 0o140001, true, false, 0o2001⟩ := by
      decide

theorem test_step_ral_rbl :
    after 0o001200 (start 0o100001 0o012345 true false) regs = some ⟨0o000003, 0o012345, true, false, 0o2001⟩ ∧
    after 0o005200 (start 0o012345 0o100001 true false) regs = some ⟨0o012345, 0o000003, true, false, 0o2001⟩ ∧
    after 0o000022 (start 0o100001 0o012345 true false) regs = some ⟨0o000003, 0o012345, true, false, 0o2001⟩ ∧
    after 0o004022 (start 0o012345 0o100001 true false) regs = some ⟨0o012345, 0o000003, true, false, 0o2001⟩ := by
      decide

theorem test_step_rar_rbr :
    after 0o001300 (start 0o000001 0o012345 true false) regs = some ⟨0o100000, 0o012345, true, false, 0o2001⟩ ∧
    after 0o005300 (start 0o012345 0o000001 true false) regs = some ⟨0o012345, 0o100000, true, false, 0o2001⟩ ∧
    after 0o000023 (start 0o000001 0o012345 true false) regs = some ⟨0o100000, 0o012345, true, false, 0o2001⟩ ∧
    after 0o004023 (start 0o012345 0o000001 true false) regs = some ⟨0o012345, 0o100000, true, false, 0o2001⟩ := by
      decide

theorem test_step_alr_blr :
    after 0o001400 (start 0o140001 0o012345 true false) regs = some ⟨0o000002, 0o012345, true, false, 0o2001⟩ ∧
    after 0o005400 (start 0o012345 0o140001 true false) regs = some ⟨0o012345, 0o000002, true, false, 0o2001⟩ ∧
    after 0o000024 (start 0o140001 0o012345 true false) regs = some ⟨0o000002, 0o012345, true, false, 0o2001⟩ ∧
    after 0o004024 (start 0o012345 0o140001 true false) regs = some ⟨0o012345, 0o000002, true, false, 0o2001⟩ := by
      decide

theorem test_step_era_erb :
    after 0o001500 (start 0o000002 0o012345 true false) regs = some ⟨0o100001, 0o012345, false, false, 0o2001⟩ ∧
    after 0o005500 (start 0o012345 0o000002 true false) regs = some ⟨0o012345, 0o100001, false, false, 0o2001⟩ ∧
    after 0o000025 (start 0o000002 0o012345 true false) regs = some ⟨0o100001, 0o012345, false, false, 0o2001⟩ ∧
    after 0o004025 (start 0o012345 0o000002 true false) regs = some ⟨0o012345, 0o100001, false, false, 0o2001⟩ := by
      decide

theorem test_step_ela_elb :
    after 0o001600 (start 0o040000 0o012345 true false) regs = some ⟨0o100001, 0o012345, false, false, 0o2001⟩ ∧
    after 0o005600 (start 0o012345 0o040000 true false) regs = some ⟨0o012345, 0o100001, false, false, 0o2001⟩ ∧
    after 0o000026 (start 0o040000 0o012345 true false) regs = some ⟨0o100001, 0o012345, false, false, 0o2001⟩ ∧
    after 0o004026 (start 0o012345 0o040000 true false) regs = some ⟨0o012345, 0o100001, false, false, 0o2001⟩ := by
      decide

theorem test_step_alf_blf :
    after 0o001700 (start 0o123456 0o012345 true false) regs = some ⟨0o071352, 0o012345, true, false, 0o2001⟩ ∧
    after 0o005700 (start 0o012345 0o123456 true false) regs = some ⟨0o012345, 0o071352, true, false, 0o2001⟩ ∧
    after 0o000027 (start 0o123456 0o012345 true false) regs = some ⟨0o071352, 0o012345, true, false, 0o2001⟩ ∧
    after 0o004027 (start 0o012345 0o123456 true false) regs = some ⟨0o012345, 0o071352, true, false, 0o2001⟩ := by
      decide

theorem test_step_disabled_rotate :
    after 0o000500 (start 0o000001 0o0 false false) regs = some ⟨0o000001, 0o0, true, false, 0o2001⟩ ∧
    after 0o000600 (start 0o100000 0o0 false false) regs = some ⟨0o100000, 0o0, true, false, 0o2001⟩ ∧
    after 0o000005 (start 0o000003 0o0 false false) regs = some ⟨0o000003, 0o0, true, false, 0o2001⟩ ∧
    after 0o000006 (start 0o077777 0o0 true false) regs = some ⟨0o077777, 0o0, false, false, 0o2001⟩ ∧
    after 0o004500 (start 0o0 0o000001 false false) regs = some ⟨0o0, 0o000001, true, false, 0o2001⟩ ∧
    after 0o004600 (start 0o0 0o100000 false false) regs = some ⟨0o0, 0o100000, true, false, 0o2001⟩ ∧
    after 0o004005 (start 0o0 0o000003 false false) regs = some ⟨0o0, 0o000003, true, false, 0o2001⟩ ∧
    after 0o004006 (start 0o0 0o100000 false false) regs = some ⟨0o0, 0o100000, true, false, 0o2001⟩ := by decide

theorem test_step_nop_and_empty :
    after 0o000000 (start 0o001234 0o004321 true true) regs = some ⟨0o001234, 0o004321, true, true, 0o2001⟩ ∧
    after 0o000100 (start 0o100003 0o0 true false) regs = some ⟨0o100003, 0o0, true, false, 0o2001⟩ ∧
    after 0o002000 (start 0o000005 0o0 true false) regs = some ⟨0o000005, 0o0, true, false, 0o2001⟩ := by decide

theorem test_step_cle_srg :
    after 0o000040 (start 0o000007 0o0 true false) regs = some ⟨0o000007, 0o0, false, false, 0o2001⟩ ∧
    after 0o000065 (start 0o000001 0o0 true false) regs = some ⟨0o000000, 0o0, true, false, 0o2001⟩ := by decide

theorem test_step_sl_srg :
    after 0o000010 (start 0o000002 0o0 false false) regs = some ⟨0o000002, 0o0, false, false, 0o2002⟩ ∧
    after 0o000010 (start 0o000003 0o0 false false) regs = some ⟨0o000003, 0o0, false, false, 0o2001⟩ ∧
    after 0o004010 (start 0o000001 0o000000 false false) regs = some ⟨0o000001, 0o000000, false, false, 0o2002⟩ := by
      decide

theorem test_step_srg_combined :
    after 0o001272 (start 0o100000 0o0 true false) regs = some ⟨0o000002, 0o0, false, false, 0o2001⟩ ∧
    after 0o001272 (start 0o040000 0o0 true false) regs = some ⟨0o000001, 0o0, false, false, 0o2002⟩ ∧
    after 0o001110 (start 0o000002 0o0 false false) regs = some ⟨0o000001, 0o0, false, false, 0o2001⟩ := by decide

theorem test_step_clear :
    after 0o002400 (start 0o123456 0o5 false false) regs = some ⟨0o0, 0o5, false, false, 0o2001⟩ ∧
    after 0o006400 (start 0o5 0o123456 false false) regs = some ⟨0o5, 0o0, false, false, 0o2001⟩ := by decide

theorem test_step_complement :
    after 0o003000 (start 0o052525 0o0 false false) regs = some ⟨0o125252, 0o0, false, false, 0o2001⟩ ∧
    after 0o007000 (start 0o0 0o0 false false) regs = some ⟨0o0, 0o177777, false, false, 0o2001⟩ := by decide

theorem test_step_clear_complement :
    after 0o003400 (start 0o012345 0o0 false false) regs = some ⟨0o177777, 0o0, false, false, 0o2001⟩ ∧
    after 0o007400 (start 0o0 0o0 false false) regs = some ⟨0o0, 0o177777, false, false, 0o2001⟩ := by decide

theorem test_step_extend :
    after 0o002100 (start 0o7 0o0 true false) regs = some ⟨0o7, 0o0, false, false, 0o2001⟩ ∧
    after 0o002200 (start 0o7 0o0 false false) regs = some ⟨0o7, 0o0, true, false, 0o2001⟩ ∧
    after 0o002200 (start 0o7 0o0 true false) regs = some ⟨0o7, 0o0, false, false, 0o2001⟩ ∧
    after 0o002300 (start 0o7 0o0 false false) regs = some ⟨0o7, 0o0, true, false, 0o2001⟩ := by decide

theorem test_step_ss :
    after 0o002020 (start 0o077777 0o0 false false) regs = some ⟨0o077777, 0o0, false, false, 0o2002⟩ ∧
    after 0o002020 (start 0o100000 0o0 false false) regs = some ⟨0o100000, 0o0, false, false, 0o2001⟩ ∧
    after 0o006020 (start 0o0 0o100000 false false) regs = some ⟨0o0, 0o100000, false, false, 0o2001⟩ := by decide

theorem test_step_sl_asg :
    after 0o002010 (start 0o2 0o0 false false) regs = some ⟨0o2, 0o0, false, false, 0o2002⟩ ∧
    after 0o002010 (start 0o3 0o0 false false) regs = some ⟨0o3, 0o0, false, false, 0o2001⟩ ∧
    after 0o006010 (start 0o1 0o2 false false) regs = some ⟨0o1, 0o2, false, false, 0o2002⟩ := by decide

theorem test_step_sz :
    after 0o002002 (start 0o0 0o1 false false) regs = some ⟨0o0, 0o1, false, false, 0o2002⟩ ∧
    after 0o002002 (start 0o1 0o0 false false) regs = some ⟨0o1, 0o0, false, false, 0o2001⟩ ∧
    after 0o006002 (start 0o1 0o0 false false) regs = some ⟨0o1, 0o0, false, false, 0o2002⟩ := by decide

theorem test_step_sez :
    after 0o002040 (start 0o1 0o0 false false) regs = some ⟨0o1, 0o0, false, false, 0o2002⟩ ∧
    after 0o002040 (start 0o1 0o0 true false) regs = some ⟨0o1, 0o0, true, false, 0o2001⟩ ∧
    after 0o002240 (start 0o1 0o0 false false) regs = some ⟨0o1, 0o0, true, false, 0o2002⟩ := by decide

theorem test_step_in :
    after 0o002004 (start 0o077777 0o0 false false) regs = some ⟨0o100000, 0o0, false, true, 0o2001⟩ ∧
    after 0o002004 (start 0o177777 0o0 false false) regs = some ⟨0o0, 0o0, true, false, 0o2001⟩ ∧
    after 0o002004 (start 0o5 0o0 true true) regs = some ⟨0o6, 0o0, true, true, 0o2001⟩ ∧
    after 0o006004 (start 0o7 0o077777 false false) regs = some ⟨0o7, 0o100000, false, true, 0o2001⟩ := by decide

theorem test_step_rss :
    after 0o002001 (start 0o1 0o0 false false) regs = some ⟨0o1, 0o0, false, false, 0o2002⟩ ∧
    after 0o006001 (start 0o1 0o0 false false) regs = some ⟨0o1, 0o0, false, false, 0o2002⟩ ∧
    after 0o002003 (start 0o0 0o0 false false) regs = some ⟨0o0, 0o0, false, false, 0o2001⟩ := by decide

theorem test_step_rss_pair :
    after 0o002031 (start 0o100001 0o0 false false) regs = some ⟨0o100001, 0o0, false, false, 0o2002⟩ ∧
    after 0o002031 (start 0o100000 0o0 false false) regs = some ⟨0o100000, 0o0, false, false, 0o2001⟩ ∧
    after 0o002033 (start 0o2 0o0 false false) regs = some ⟨0o2, 0o0, false, false, 0o2002⟩ := by decide

theorem test_step_asg_all :
    after 0o003777 (start 0o0 0o0 false false) regs = some ⟨0o0, 0o0, true, false, 0o2002⟩ := by decide

theorem test_step_overflow :
    after 0o102101 (start 0o0 0o0 false false) regs = some ⟨0o0, 0o0, false, true, 0o2001⟩ ∧
    after 0o103101 (start 0o0 0o0 false true) regs = some ⟨0o0, 0o0, false, false, 0o2001⟩ ∧
    after 0o103301 (start 0o0 0o0 false true) regs = some ⟨0o0, 0o0, false, false, 0o2002⟩ ∧
    after 0o102201 (start 0o0 0o0 false false) regs = some ⟨0o0, 0o0, false, false, 0o2002⟩ ∧
    after 0o103201 (start 0o0 0o0 false true) regs = some ⟨0o0, 0o0, false, false, 0o2001⟩ := by decide

theorem test_step_flags :
    after 0o102110 (device 0o10 { flag := false }) (fun t => (t.iface 0o10, t.a, t.b, t.p)) = some (some { flag :=
      true }, 0o0, 0o0, 0o2001) ∧
    after 0o103110 (device 0o10 { flag := true, ctl := true, ack := true }) (fun t => (t.iface 0o10, t.a, t.b, t.p))
      = some (some { flag := false, ctl := true }, 0o0, 0o0, 0o2001) := by decide

theorem test_step_flag_skips :
    after 0o102210 (device 0o10 { flag := false }) (fun t => (t.iface 0o10, t.a, t.b, t.p)) = some (some { flag :=
      false }, 0o0, 0o0, 0o2002) ∧
    after 0o102310 (device 0o10 { flag := true }) (fun t => (t.iface 0o10, t.a, t.b, t.p)) = some (some { flag :=
      true }, 0o0, 0o0, 0o2002) ∧
    after 0o102310 (device 0o10 { flag := false }) (fun t => (t.iface 0o10, t.a, t.b, t.p)) = some (some { flag :=
      false }, 0o0, 0o0, 0o2001) := by decide

theorem test_step_li :
    after 0o103510 ({ device 0o10 { flag := true, ibuf := 0o125252 } with a := 7 }) (fun t => (t.iface 0o10, t.a,
      t.b, t.p)) = some (some { ibuf := 0o125252 }, 0o125252, 0o0, 0o2001) ∧
    after 0o106510 ({ device 0o10 { ibuf := 0o125252 } with b := 7 }) (fun t => (t.iface 0o10, t.a, t.b, t.p)) = some
      (some { ibuf := 0o125252 }, 0o0, 0o125252, 0o2001) := by decide

theorem test_step_mi :
    after 0o102410 ({ device 0o10 { ibuf := 0o125252 } with a := 7 }) (fun t => (t.iface 0o10, t.a, t.b, t.p)) = some
      (some { ibuf := 0o125252 }, 0o125257, 0o0, 0o2001) ∧
    after 0o107410 ({ device 0o10 { flag := true, ibuf := 0o125252 } with b := 0o052525 }) (fun t => (t.iface 0o10,
      t.a, t.b, t.p)) = some (some { ibuf := 0o125252 }, 0o0, 0o177777, 0o2001) := by decide

theorem test_step_ot :
    after 0o102610 ({ device 0o10 { flag := true } with a := 0o054321 }) (fun t => (t.iface 0o10, t.a, t.b, t.p)) =
      some (some { flag := true, obuf := 0o054321 }, 0o054321, 0o0, 0o2001) ∧
    after 0o107610 ({ device 0o10 { flag := true } with b := 0o012345 }) (fun t => (t.iface 0o10, t.a, t.b, t.p)) =
      some (some { obuf := 0o012345 }, 0o0, 0o012345, 0o2001) := by decide

theorem test_step_control :
    after 0o103710 (device 0o10 { flag := true }) (fun t => (t.iface 0o10, t.a, t.b, t.p)) = some (some { ctl := true
      }, 0o0, 0o0, 0o2001) ∧
    after 0o106710 (device 0o10 { flag := true, ctl := true, ack := true }) (fun t => (t.iface 0o10, t.a, t.b, t.p))
      = some (some { flag := true }, 0o0, 0o0, 0o2001) := by decide

theorem test_step_clc_00 :
    after 0o106700 ((device 0o10 { flag := true, ctl := true }).setIface 0o11 { ctl := true }) (fun t => (t.iface
      0o10, t.iface 0o11)) = some (some { flag := true }, some {}) := by decide

theorem test_step_panel :
    after 0o103501 { State.reset with sreg := 0o070707, o := true } (fun t => (t.a, t.o)) = some (0o070707, false) ∧
    after 0o102601 { State.reset with a := 0o123123 } (fun t => t.sreg) = some 0o123123 ∧
    after 0o102601 { State.reset with a := 0o123123, cfg := { model := .hp2116 } } (fun t => t.sreg) = some 0 := by
      decide

theorem test_step_low_channels :
    after 0o102500 { State.reset with a := 0o123456 } (fun t => t.a) = some 0 ∧
    after 0o102504 { State.reset with a := 0o177777, cir := 0o11 } (fun t => t.a) = some 0o11 ∧
    after 0o102100 State.reset (fun t => t.ien) = some true := by decide

theorem test_step_halt :
    after 0o102000 State.reset (fun t => (t.run, t.p)) = some (false, 0o2001) ∧
    after 0o103010 (device 0o10 { flag := true }) (fun t => (t.run, t.iface 0o10)) = some (false, some {}) := by
      decide

theorem test_step_load :
    after 0o060100 (put (start 0o0 0o0 false false) 0o100 0o012345) regs = some ⟨0o012345, 0o0, false, false, 0o2001⟩
      ∧
    after 0o160100 (put (put (put (start 0o0 0o0 false false) 0o100 0o103000) 0o3000 0o4000) 0o4000 0o123) regs =
      some ⟨0o123, 0o0, false, false, 0o2001⟩ ∧
    after 0o062100 (put (put (start 0o0 0o0 false false) 0o2100 0o777) 0o100 0o111) regs = some ⟨0o777, 0o0, false,
      false, 0o2001⟩ ∧
    after 0o064000 (start 0o321 0o0 false false) regs = some ⟨0o321, 0o321, false, false, 0o2001⟩ := by decide

theorem test_step_store :
    after 0o070100 (start 0o123456 0o0 false false) (fun t => (t.mem.wordAt 0o100, t.a, t.b, t.p)) = some (0o123456,
      0o123456, 0o0, 0o2001) ∧
    after 0o076100 (start 0o0 0o7 false false) (fun t => (t.mem.wordAt 0o2100, t.a, t.b, t.p)) = some (0o7, 0o0, 0o7,
      0o2001) ∧
    after 0o070001 (start 0o123 0o0 false false) (fun t => (t.mem.wordAt 0o100, t.a, t.b, t.p)) = some (0, 0o123,
      0o123, 0o2001) := by decide

theorem test_step_add :
    after 0o040100 (put (start 0o077777 0o0 false false) 0o100 0o1) regs = some ⟨0o100000, 0o0, false, true, 0o2001⟩ ∧
    after 0o040100 (put (start 0o100000 0o0 false false) 0o100 0o100000) regs = some ⟨0o0, 0o0, true, true, 0o2001⟩ ∧
    after 0o044100 (put (start 0o0 0o10 false false) 0o100 0o20) regs = some ⟨0o0, 0o30, false, false, 0o2001⟩ := by
      decide

theorem test_step_compare :
    after 0o050100 (put (start 0o5 0o0 false false) 0o100 0o5) regs = some ⟨0o5, 0o0, false, false, 0o2001⟩ ∧
    after 0o050100 (put (start 0o5 0o0 false false) 0o100 0o6) regs = some ⟨0o5, 0o0, false, false, 0o2002⟩ ∧
    after 0o054100 (put (start 0o6 0o5 false false) 0o100 0o6) regs = some ⟨0o6, 0o5, false, false, 0o2002⟩ := by
      decide

theorem test_step_logic :
    after 0o010100 (put (start 0o170360 0o0 false false) 0o100 0o125252) regs = some ⟨0o120240, 0o0, false, false,
      0o2001⟩ ∧
    after 0o020100 (put (start 0o170360 0o0 false false) 0o100 0o125252) regs = some ⟨0o055132, 0o0, false, false,
      0o2001⟩ ∧
    after 0o030100 (put (start 0o170360 0o0 false false) 0o100 0o125252) regs = some ⟨0o175372, 0o0, false, false,
      0o2001⟩ := by decide

theorem test_step_isz :
    after 0o034100 (put (start 0o0 0o0 false false) 0o100 0o177777) (fun t => (t.mem.wordAt 0o100, t.a, t.b, t.p)) =
      some (0, 0, 0, 0o2002) ∧
    after 0o034000 (start 0o177777 0o0 false false) regs = some ⟨0o0, 0o0, false, false, 0o2002⟩ ∧
    after 0o034001 (start 0o0 0o077777 false false) regs = some ⟨0o0, 0o100000, false, false, 0o2001⟩ := by decide

theorem test_step_jmp :
    after 0o024100 State.reset (fun t => t.p) = some 0o100 ∧
    after 0o124100 (put (start 0o0 0o0 false false) 0o100 0o3456) (fun t => t.p) = some 0o3456 := by decide

theorem test_step_jsb :
    after 0o114100 (put (start 0o0 0o0 false false) 0o100 0o3000) (fun t => (t.mem.wordAt 0o3000, t.a, t.b, t.p)) =
      some (0o2001, 0, 0, 0o3001) ∧
    after 0o014000 State.reset (fun t => (t.a, t.p)) = some (0o2001, 1) ∧
    after 0o017777 { State.reset with p := 0o77400 } (fun t => (t.mem.wordAt 0o77777, t.a, t.b, t.p)) = some
      (0o77401, 0, 0, 0) := by decide

theorem test_step_wraps :
    after 0o002001 { State.reset with p := 0o77777 } (fun t => t.p) = some 1 ∧
    after 0o000000 { State.reset with p := 0o77777 } (fun t => t.p) = some 0 := by decide

/-- A channel whose flag and control bit are set. -/
def requesting : Interface := { flag := true, ctl := true }

/-- Channel 11 interrupts a program at 02000 (section 1.3 of the vectors): JSB 00100 at location 11 stores P as it
was. -/
theorem test_step_interrupt :
    after 0o014100 { device 0o11 requesting with ien := true }
      (fun t => (t.mem.wordAt 0o100, t.p, t.cir, t.iface 0o11)) =
      some (0o2000, 0o101, 0o11, some { requesting with ack := true }) := by decide

theorem test_step_stops :
    after 0o101000 State.reset regs = none ∧ after 0o102410 { State.reset with slots := Vector.replicate 64 none }
      regs = none ∧
    after 0o103210 State.reset regs = none := by decide

/-! ## Witnesses: the hypotheses of every statement can be met -/

/-- The launch state with STF 10 at 02000. -/
def ready : State := put State.reset 0o2000 0o102110

theorem witness_DecodeAfterEncode : Instr.wf (.als1 true true ⟨true, .lf⟩) = true ∧ Instr.wf (.otb true 0o77) = true ∧
    Instr.wf (.stb ⟨true, true, 0o1777⟩) = true := by decide

theorem witness_EncodeAfterDecode :
    decode 0o102110 = .ok (.stf 0o10) ∧ decode 0o106110 = .ok (.stf 0o10) ∧ decode 0o106710 = .ok (.clc false 0o10) ∧
    encode (.clc false 0o10) = 0o106710 := by decide

theorem witness_StepRunsDecodedInstruction :
    ready.run = true ∧ agentsAct ready = ready ∧ ready.pendingInterrupt = none ∧
    memRead ready ready.p = .next 0o102110 ∧ decode 0o102110 = .ok (.stf 0o10) ∧ ready.agenda = [] :=
  ⟨rfl, rfl, rfl, rfl, by decide, rfl⟩

/-- A boundary at which the device of channel 10 writes its input register and sets its flag, and the operator the
switches. -/
def acting : State := { ready with agenda := [[.writeIbuf 0o10 5, .setFlag 0o10, .setSwitches 7], []] }

theorem witness_StepRunsDecodedInstruction_agents :
    acting.run = true ∧ (agentsAct acting).pendingInterrupt = none ∧
    memRead (agentsAct acting) (agentsAct acting).p = .next 0o102110 ∧
    (agentsAct acting).iface 0o10 = some { flag := true, ibuf := 5 } ∧ (agentsAct acting).sreg = 7 ∧
    (agentsAct acting).agenda = [[]] := ⟨rfl, rfl, rfl, by decide, rfl, rfl⟩

/-- A program at 02000 with an interrupt of channel 10 to take, and JSB 00100 at location 10. -/
def interrupted : State := put { device 0o10 requesting with ien := true } 0o10 0o014100

theorem witness_StepTakesInterrupt :
    interrupted.run = true ∧ agentsAct interrupted = interrupted ∧ interrupted.pendingInterrupt = some 0o10 ∧
    interrupted.iface 0o10 = some requesting ∧ memRead interrupted ((0o10 : SelectCode).setWidth 15) = .next 0o014100
      ∧
    decode 0o014100 = .ok (.jsb ⟨false, false, 0o100⟩) ∧
    ∃ v : State, v = { interrupted with cir := 0o10, fa := (0o10 : SelectCode).setWidth 15, slots := v.slots } ∧
      v.iface 0o10 = some { requesting with ack := true } ∧ ∀ k, k ≠ 0o10 → v.iface k = interrupted.iface k :=
  ⟨rfl, rfl, by decide, by decide, rfl, by decide,
    { interrupted with cir := 0o10, fa := (0o10 : SelectCode).setWidth 15,
                       slots := (interrupted.setIface 0o10 { requesting with ack := true }).slots },
    rfl, by decide, by decide⟩

theorem witness_StepStops_halted : State.run { State.reset with run := false } = false := rfl

theorem witness_StepStops_unlisted :
    (put State.reset 0o2000 0o101000).run = true ∧
    fetchWord (agentsAct (put State.reset 0o2000 0o101000)) = .next 0o101000 ∧
    decode 0o101000 = .error .unlisted := ⟨rfl, rfl, by decide⟩

/-- The launch state with page zero installed alone: 02000 is the first address without memory. -/
def small : State := { State.reset with cfg := { memWords := 0o2000 } }

theorem witness_StepStops_absent : small.run = true ∧ ¬ (agentsAct small).hasAddr (fetchAddr (agentsAct small)) := by
  refine ⟨rfl, ?_⟩
  unfold State.hasAddr
  decide

theorem witness_InterruptTakenExactlyWhen :
    State.pendingInterrupt { device 0o10 requesting with ien := true } = some 0o10 ∧
    State.pendingInterrupt { device 0o77 requesting with ien := true } = some 0o77 ∧
    State.pendingInterrupt { device 0o10 { requesting with ack := true } with ien := true } = none ∧
    State.pendingInterrupt { (device 0o10 requesting).setIface 0o11 requesting with ien := true } = some 0o10 := by
      decide

/-- Channel 11 held, channel 10 requesting. -/
def held : State :=
  { (device 0o10 requesting).setIface 0o11 { requesting with ack := true } with ien := true }

theorem witness_HeldLevelBlocksLowerPriority :
    held.iface 0o11 = some { requesting with ack := true } ∧ 8 ≤ (0o11 : SelectCode).toNat ∧
    held.pendingInterrupt = some 0o10 := by decide

theorem witness_NoInterruptWhileDisabled : (device 0o10 requesting).ien = false := rfl

theorem witness_ClearingReleasesLevel_flag :
    8 ≤ (0o77 : SelectCode).toNat ∧ (∃ t, exec (.clf 0o77) State.reset = .next t) ∧
    (∃ t, exec (.stc true 0o10) State.reset = .next t) ∧
    (∃ t, exec (.sfc true 0o10) { State.reset with cfg := { sfxClearForm := .testThenClear } } = .next t) :=
  ⟨by decide, ⟨_, rfl⟩, ⟨_, rfl⟩, ⟨_, rfl⟩⟩

theorem witness_ClearingReleasesLevel_control :
    8 ≤ (0o10 : SelectCode).toNat ∧
    (device 0o10 { requesting with ack := true }).iface 0o10 = some { requesting with ack := true } ∧
    8 ≤ (0o77 : SelectCode).toNat ∧
    (device 0o77 { requesting with ack := true }).iface 0o77 = some { requesting with ack := true } := by decide

/-- A held level in a machine of 1024 words, one of them written: the invariant holds. -/
theorem witness_StepKeepsInvariant :
    State.Inv { held with mem := [(4, 1)], cfg := { memWords := 1024 } } ∧
    ∃ t, step { held with mem := [(4, 1)], cfg := { memWords := 1024 } } = .next t := by
  refine ⟨⟨by decide, by decide, ?_, by decide, ?_⟩, ⟨_, rfl⟩⟩
  · intro k v h
    simp only [List.mem_singleton, Prod.mk.injEq] at h
    obtain ⟨rfl, -⟩ := h
    decide
  · have : ∀ sc : SelectCode, ∀ d ∈ State.iface { held with mem := [(4, 1)], cfg := { memWords := 1024 } } sc,
        d.ack = true → d.flag = true ∧ d.ctl = true := by decide
    exact fun sc d h => this sc d h

theorem witness_StepKeepsConfiguration : ∃ t, step State.reset = .next t := ⟨_, rfl⟩

theorem witness_CanonicalMemoriesEqual :
    Memory.wf [(4, 1), (9, 2)] = true ∧ ∀ k, Memory.byteAt [(4, 1), (9, 2)] k = Memory.byteAt [(4, 1), (9, 2)] k :=
  ⟨by decide, fun _ => rfl⟩

theorem witness_ExtendWriters :
    Instr.wf (.als1 false true ⟨true, .lf⟩) = true ∧ (∃ t, exec (.als1 false true ⟨true, .lf⟩) State.reset = .next t)
      ∧
    ¬ mayWriteE (.als1 false true ⟨true, .lf⟩) ∧ ¬ mayWriteE (.sto) :=
  ⟨by decide, ⟨_, rfl⟩, by simp [mayWriteE, tailWritesE], by simp [mayWriteE]⟩

theorem witness_OverflowWriters :
    Instr.wf (.stf 0) = true ∧ (∃ t, exec (.stf 0) State.reset = .next t) ∧ ¬ mayWriteO (.stf 0) ∧
    ¬ mayWriteO (.als1 true true ⟨true, .lf⟩) ∧ ¬ mayClearO (.ina false false) ∧
    (∃ t, exec (.ina false false) (start 0 0 false true) = .next t) :=
  ⟨by decide, ⟨_, rfl⟩, by simp [mayWriteO], by simp [mayWriteO], by simp [mayClearO], ⟨_, rfl⟩⟩

theorem witness_ControlStateWriters :
    (∃ t, exec (.ota false 0) State.reset = .next t) ∧ (∀ f sc, Instr.ota false 0 ≠ .hlt f sc) ∧
    ¬ mayWriteIen (.ota false 0) ∧ (∀ f, Instr.ota false 0 ≠ .ota f 1 ∧ Instr.ota false 0 ≠ .otb f 1) :=
  ⟨⟨_, rfl⟩, by simp, by simp [mayWriteIen], by decide⟩

theorem witness_MemoryWriters : (∃ t, exec (.ada ⟨false, false, 2⟩) State.reset = .next t) ∧
    ¬ stores (.ada ⟨false, false, 2⟩) := ⟨⟨_, rfl⟩, by simp [stores]⟩

theorem witness_EmptyWordsChangeNothing : ShiftCode.idle .lf = true ∧ ShiftCode.idle .ls = true := by decide

theorem witness_SecondPositionWords : ShiftCode.idle .lf = true := by decide

theorem witness_ClearAndSkipWords : ShiftCode.idle .lr = true := by decide

theorem witness_ShiftArithmetic :
    (start 0o140001 0 false false).a.getLsbD 15 = (start 0o140001 0 false false).a.getLsbD 14 := by decide

/-- SZr skips on zero and not on one; SSr, SLr and RSS skip only where both bits are one. -/
theorem witness_AlterSkipWords :
    alterSkips ⟨.A, .none, false, .none, false, false, false, true, false⟩ false 0 0 ∧
    ¬ alterSkips ⟨.A, .none, false, .none, false, false, false, true, false⟩ false 1 1 ∧
    alterSkips ⟨.A, .none, false, .none, true, true, false, false, true⟩ false 0o100001 0o100001 ∧
    ¬ alterSkips ⟨.A, .none, false, .none, true, true, false, false, true⟩ false 0o100000 0o100000 := by
  refine ⟨?_, ?_, ?_, ?_⟩ <;> simp [alterSkips]

theorem witness_DirectAddressPage : MemRef.cur ⟨false, false, 0⟩ = false ∧ MemRef.cur ⟨true, true, 0o1777⟩ = true :=
  by
  decide

theorem witness_EffectiveAddressLevels_direct : MemRef.ind ⟨false, true, 0o100⟩ = false := rfl

theorem witness_EffectiveAddressLevels_single :
    memRead (put { State.reset with cfg := { indirectMultilevel := false } } 0o100 0o103000)
      (directAddr ⟨true, false, 0o100⟩ 0) = .next 0o103000 ∧
    State.cfg (put { State.reset with cfg := { indirectMultilevel := false } } 0o100 0o103000) =
      { indirectMultilevel := false } ∧
    ¬ State.hasAddr { State.reset with cfg := { indirectMultilevel := false, memWords := 2 } } 2 := by
  refine ⟨rfl, rfl, ?_⟩
  unfold State.hasAddr
  decide

/-- An indirect chain of three words: 00100, 03000, 04000, whose last asks for no further level. -/
def chained : State := put (put (put State.reset 0o100 0o103000) 0o3000 0o104000) 0o4000 0o5000

theorem witness_EffectiveAddressLevels_chain :
    chained.cfg.indirectMultilevel = true ∧
    chainAddr chained (directAddr ⟨true, false, 0o100⟩ 0) 2 = some 0o4000 ∧
    memRead chained 0o4000 = .next 0o5000 ∧ (0o5000 : Word).getLsbD 15 = false ∧
    chainAddr State.reset (directAddr ⟨true, false, 0⟩ 0) 0 = some 0 ∧
    memRead State.reset 0 = .next 0 := ⟨rfl, rfl, rfl, by decide, rfl, rfl⟩

theorem witness_EffectiveAddressLevels_absent :
    (put small 0o100 0o102000).cfg.indirectMultilevel = true ∧
    chainAddr (put small 0o100 0o102000) (directAddr ⟨true, false, 0o100⟩ 0) 1 = some 0o2000 ∧
    ¬ (put small 0o100 0o102000).hasAddr 0o2000 := by
  refine ⟨rfl, rfl, ?_⟩
  unfold State.hasAddr
  decide

/-- A holds 100000, so the chain from location 0 comes back to location 0 for ever. -/
def looping : State := start 0o100000 0 false false

theorem looping_chain (n : Nat) : chainAddr looping 0 n = some 0 := by
  induction n with
  | zero => rfl
  | succ n ih =>
    rw [chainAddr, ih]
    rfl

theorem looping_follow (n : Nat) : followChain looping n 0 = .fault .indirectHang := by
  induction n with
  | zero => rfl
  | succ n ih => rw [followChain]; exact ih

theorem witness_HangExactlyWhenEndless :
    looping.cfg.indirectMultilevel = true ∧
    ∀ n, (chainAddr looping (directAddr ⟨true, false, 0⟩ looping.fa) n).isSome = true :=
  ⟨rfl, fun n => congrArg Option.isSome (looping_chain n)⟩

theorem witness_ReadsSeeLatestWrite :
    ready.mem.wf = true ∧ ready.hasAddr 0 ∧ ready.hasAddr 1 ∧ ready.hasAddr 2 ∧ ready.hasAddr 0o77777 ∧
    small.hasAddr 0o1777 ∧ ¬ small.hasAddr 0o2000 := by
  unfold State.hasAddr
  decide

theorem hasAddr_100 : State.reset.hasAddr 0o100 := by unfold State.hasAddr; decide

/-- Operands that exist: a word of memory, a word reached indirectly, and A as location 0. -/
def operandsExist : Prop :=
  effectiveAddr (put State.reset 0o100 5) ⟨false, false, 0o100⟩ = .next 0o100 ∧
  memRead (put State.reset 0o100 5) 0o100 = .next 5 ∧
  effectiveAddr (put State.reset 0o100 0o3000) ⟨true, false, 0o100⟩ = .next 0o3000 ∧
  memRead (put State.reset 0o100 0o3000) 0o3000 = .next 0 ∧
  effectiveAddr State.reset ⟨false, false, 0⟩ = .next 0 ∧ memRead State.reset 0 = .next 0

theorem operands_exist : operandsExist := ⟨rfl, rfl, rfl, rfl, rfl, rfl⟩

theorem witness_LoadTakesWord : operandsExist := operands_exist
theorem witness_AddSetsFlags : operandsExist := operands_exist
theorem witness_CompareSkips : operandsExist := operands_exist
theorem witness_LogicCombinesA : operandsExist := operands_exist

theorem witness_IncrementAndSkip : operandsExist ∧ (put State.reset 0o100 5).mem.wf = true := ⟨operands_exist, rfl⟩

theorem witness_StorePutsRegister :
    State.reset.mem.wf = true ∧ effectiveAddr State.reset ⟨false, false, 0o100⟩ = .next 0o100 ∧
    State.reset.hasAddr 0o100 := ⟨rfl, rfl, hasAddr_100⟩

theorem witness_JumpSetsP : effectiveAddr State.reset ⟨false, true, 0o1777⟩ = .next 0o1777 := rfl

theorem witness_JumpSubroutineStoresP :
    State.reset.mem.wf = true ∧ effectiveAddr State.reset ⟨false, false, 0o100⟩ = .next 0o100 ∧
    State.reset.hasAddr 0o100 := ⟨rfl, rfl, hasAddr_100⟩

theorem witness_ReturnThroughEntryWord :
    State.reset.mem.wf = true ∧ effectiveAddr State.reset ⟨false, false, 0o100⟩ = .next 0o100 ∧
    State.reset.hasAddr 0o100 ∧ (∃ t, exec (.jsb ⟨false, false, 0o100⟩) State.reset = .next t) ∧
    directAddr ⟨true, false, 0o100⟩ 0o2006 = 0o100 := ⟨rfl, rfl, hasAddr_100, ⟨_, rfl⟩, rfl⟩

/-- The call of program P2 of the vectors: JSB 02004 at 02001, `JMP 02004,I` at 02006 of the same page. -/
theorem witness_ReturnThroughEntryWord_current :
    effectiveAddr { State.reset with fa := 0o2001, p := 0o2002 } ⟨false, true, 4⟩ = .next 0o2004 ∧
    State.hasAddr { State.reset with fa := 0o2001, p := 0o2002 } 0o2004 ∧
    (∃ t u, exec (.jsb ⟨false, true, 4⟩) { State.reset with fa := 0o2001, p := 0o2002 } = .next t ∧
      u = { t with fa := 0o2006, p := 0o2007 } ∧ memRead u 0o2004 = memRead t 0o2004 ∧
      directAddr ⟨true, true, 4⟩ u.fa = 0o2004) := by
  refine ⟨rfl, ?_, ⟨_, _, rfl, rfl, rfl, rfl⟩⟩
  unfold State.hasAddr
  decide

theorem witness_MemoryReferenceStops_hang : effectiveAddr looping ⟨true, false, 0⟩ = .fault .indirectHang :=
  looping_follow chainFuel

theorem witness_MemoryReferenceStops_absent :
    effectiveAddr { small with fa := 0o2000 } ⟨false, true, 0⟩ = .next 0o2000 ∧ ¬ small.hasAddr 0o2000 := by
  refine ⟨rfl, ?_⟩
  unfold State.hasAddr
  decide

theorem witness_MemoryReferenceStops_refused :
    effectiveAddr { small with fa := 0o2000 } ⟨true, true, 0⟩ = .refused (.memoryNotInstalled 0o2000) := rfl

/-- Interfaces at both ends of the range of select codes. -/
def interfacesExist : Prop :=
  8 ≤ (0o10 : SelectCode).toNat ∧ State.reset.iface 0o10 = some {} ∧ State.reset.iface 0o77 = some {}

theorem interfaces_exist : interfacesExist := by unfold interfacesExist; decide

theorem witness_HaltStopsProcessor : interfacesExist := interfaces_exist
theorem witness_FlagSetAndClear : interfacesExist := interfaces_exist
theorem witness_FlagTests : interfacesExist := interfaces_exist
theorem witness_InterfaceData : interfacesExist := interfaces_exist
theorem witness_InterfaceControl : interfacesExist := interfaces_exist

theorem witness_FlagTestsClearForm :
    State.reset.cfg.sfxClearForm = .refuse ∧
    State.iface { State.reset with cfg := { sfxClearForm := .testThenClear } } 0o10 = some {} := by decide

theorem witness_PanelChannel :
    State.reset.cfg.model = .hp2100A ∧
    (∀ m : Model, ∀ b : Bool, ∃ s : State, s.cfg.model = m ∧ s.cfg.sRegisterOn2114 = b) :=
  ⟨rfl, fun m b => ⟨{ State.reset with cfg := { model := m, sRegisterOn2114 := b } }, rfl, rfl⟩⟩

theorem witness_EmptySelectCodeRefused :
    State.iface { State.reset with slots := Vector.replicate 64 none } 0o10 = none ∧
    State.iface { State.reset with slots := Vector.replicate 64 none } 0o77 = none ∧
    State.reset.guard = none ∧ State.reset.dma = none ∧ (5 : SelectCode).toNat = 5 ∧
    (2 : SelectCode).toNat = 2 ∧ (7 : SelectCode).toNat = 7 := by decide

theorem witness_EmptySelectCodeRefused_form :
    State.cfg { State.reset with cfg := { sfxClearForm := .testThenClear } } = { sfxClearForm := .testThenClear } :=
      rfl

theorem witness_DmaRegisterAccess :
    State.dma { State.reset with dma := some { ch1 := { selLength := true, complete := true } } } =
      some { ch1 := { selLength := true, complete := true } } := rfl

theorem witness_GuardRegisterAccess :
    State.guard { State.reset with guard := some ⟨.both ⟨5, true⟩ ⟨true⟩, 7⟩ } = some ⟨.both ⟨5, true⟩ ⟨true⟩, 7⟩ ∧
    State.guard { State.reset with guard := some ⟨.protect {}, 7⟩ } = some ⟨.protect {}, 7⟩ ∧
    State.guard { State.reset with guard := some ⟨.parity {}, 7⟩ } = some ⟨.parity {}, 7⟩ := ⟨rfl, rfl, rfl⟩

/-- With the protect board alone, OTA 05 loads the upper bound and STF 05 has no bit to set; with the parity board alone
it is the other way round (R34). -/
theorem test_guard_boards :
    exec (.ota false 5) { start 0o1234 0 false false with guard := some ⟨.protect {}, 0⟩ } =
      .next { start 0o1234 0 false false with guard := some ⟨.protect ⟨0o1234, false⟩, 0⟩ } ∧
    exec (.stf 5) { start 0 0 false false with guard := some ⟨.protect {}, 0⟩ } = .refused (.noChannelFunction 5) ∧
    exec (.stf 5) { start 0 0 false false with guard := some ⟨.parity {}, 0⟩ } =
      .next { start 0 0 false false with guard := some ⟨.parity ⟨true⟩, 0⟩ } ∧
    exec (.ota false 5) { start 0 0 false false with guard := some ⟨.parity {}, 0⟩ } =
      .refused (.noChannelFunction 5) := ⟨rfl, rfl, rfl, rfl⟩

theorem witness_DmaRegisterAccess_form :
    State.cfg { State.reset with dma := some {}, cfg := { sfxClearForm := .testThenClear } } =
      { sfxClearForm := .testThenClear } := rfl

theorem witness_GuardRegisterAccess_form :
    State.cfg { State.reset with guard := some ⟨.parity {}, 0⟩, cfg := { sfxClearForm := .testThenClear } } =
      { sfxClearForm := .testThenClear } := rfl

theorem witness_LaunchState : 8 ≤ (0o10 : SelectCode).toNat ∧ (7 : SelectCode).toNat < 8 := by decide

end Sys2Proof.Tests
end

section
/-! PROOFS. The Shift-Rotate Group: a word that selects nothing leaves the state as it was. -/

namespace Sys2Proof.Machine

/-- Writing a register back with its own value changes nothing. -/
@[simp] theorem State.setReg_reg_self (s : State) (r : Reg) : s.setReg r (s.reg r) = s := by cases r <;> rfl

/-- Writing E back with its own value changes nothing. -/
@[simp] theorem State.setE_e_self (s : State) : s.setE s.e = s := rfl

/-- With both positions disabled and not coded as a rotate with E, and neither CLE nor SLr, the register and E are
written back unchanged and no skip is made (R110, R112). -/
theorem runShiftRotate_idle {c1 c2 : ShiftCode} (h1 : c1.idle = true) (h2 : c2.idle = true) (r : Reg) (s : State) :
    runShiftRotate (SrgWord.idle r c1 c2) s = .next s := by
  have first : runSlot ⟨false, c1⟩ (s.reg r) s.e = (s.reg r, s.e) := runSlot_idle h1 _ _
  have second : runSlot ⟨false, c2⟩ (s.reg r) s.e = (s.reg r, s.e) := runSlot_idle h2 _ _
  simp [runShiftRotate, SrgWord.idle, first, second, State.skipIf]

/-- NOP is the shift-rotate word with every field zero (R112). -/
theorem exec_nop (s : State) : exec .nop s = runShiftRotate (SrgWord.idle .A .ls .ls) s := rfl

/-- Settles O20: NOP is the idle shift-rotate word on A with both codes 0. -/
theorem nopChangesNothing : Obligations.NopChangesNothing := by
  have zero_word : decode 0 = .ok .nop := by decide
  have unchanged (s : State) : exec .nop s = .next s := (exec_nop s).trans (runShiftRotate_idle rfl rfl .A s)
  exact ⟨zero_word, unchanged⟩

end Sys2Proof.Machine
end

section
/-! PROOFS. The Input/Output Group: its words are read by group and fields, and the flag of select code 01 is O. -/

namespace Sys2Proof.Machine

/-- The fixed bits of an input/output word put it in its group (R81, R87), so it decodes to the instruction of its four
fields. -/
theorem decode_encodeIog (r f : Bool) (sub : BitVec 3) (sc : SelectCode) :
    decode (encodeIog r f sub sc) = .ok (iogInstr r f sub sc) := by
  have not_memory_reference : field (encodeIog r f sub sc) 12 3 = 0 := by
    unfold field encodeIog
    iterate 5 rw [extract_append_high _ _ (by decide)]
    decide
  have bit15 : bit (encodeIog r f sub sc) 15 = true := by
    simp only [bit, encodeIog, BitVec.getLsbD_append]; simp
  have bit10 : bit (encodeIog r f sub sc) 10 = true := by
    simp only [bit, encodeIog, BitVec.getLsbD_append]; simp
  obtain ⟨hr, hf, hsub, hsc⟩ := encodeIog_fields r f sub sc
  simp [decode, not_memory_reference, bit15, bit10, hr, hf, hsub, hsc]

/-- The flag of select code 01 is O (R171). -/
@[simp] theorem setFlag_panel (v : Bool) (s : State) : setFlag 1 v s = .next (s.setO v) := rfl

/-- STO is STF 01 (R182). -/
theorem exec_sto (s : State) : exec .sto s = setFlag 1 true s := rfl

/-- CLO is CLF 01 (R183). -/
theorem exec_clo (s : State) : exec .clo s = setFlag 1 false s := rfl

/-- On select code 01 bit 9 tells CLO from STO, and bit 11 is not read (R90, R98). -/
theorem decode_overflow_word (r f : Bool) : decode (encodeIog r f 1 1) = .ok (if f then .clo else .sto) :=
  decode_encodeIog r f 1 1

/-- Settles O51: STO and CLO write the flag of select code 01, and each of the four words is an input/output word with
sub 1 on that select code, under one value of bits 11 and 9. -/
theorem overflowSetAndClear : Obligations.OverflowSetAndClear := by
  intro s
  have sto_sets : exec .sto s = .next { s with o := true } := (exec_sto s).trans (setFlag_panel true s)
  have clo_clears : exec .clo s = .next { s with o := false } := (exec_clo s).trans (setFlag_panel false s)
  exact ⟨sto_sets, clo_clears, decode_overflow_word false false, decode_overflow_word true false,
    decode_overflow_word false true, decode_overflow_word true true⟩

end Sys2Proof.Machine
end

section
/-! PROOFS. The Memory Reference Group: its words are read by opcode and operand; a load, a logical operation and a
jump by the operand they have. -/

namespace Sys2Proof.Machine

open Sys2Proof.Statement

/-- An opcode whose three high bits are not all zero puts the word in the memory reference group (R81, R83), so it
decodes to the instruction of its opcode and operand. -/
theorem decode_encodeMrg {op : BitVec 4} (h : op.extractLsb' 1 3 ≠ 0) (x : MemRef) :
    decode (encodeMrg op x) = .ok (mrgInstr op x) := by
  have group : field (encodeMrg op x) 12 3 = op.extractLsb' 1 3 := by
    unfold field encodeMrg
    rw [extract_append_high _ _ (by decide), extract_append_high _ _ (by decide), extract_append_low _ _ (by decide)]
  obtain ⟨hop, hx⟩ := encodeMrg_fields op x
  rw [decode, group, if_pos h, hop, hx]

/-- A row of R83 gives the encoding of its instruction. -/
theorem mrgEncoding_of_mrgInstr {op : BitVec 4} {k : MemRef → Instr} (h : op.extractLsb' 1 3 ≠ 0)
    (row : ∀ x, mrgInstr op x = k x) : mrgEncoding op k := fun i p m =>
  (decode_encodeMrg h ⟨i, p, m⟩).trans (congrArg Except.ok (row ⟨i, p, m⟩))

theorem exec_lda (x : MemRef) (s : State) : exec (.lda x) s = loadMem .A x s := rfl
theorem exec_ldb (x : MemRef) (s : State) : exec (.ldb x) s = loadMem .B x s := rfl
theorem exec_and (x : MemRef) (s : State) : exec (.and x) s = combineA (· &&& ·) x s := rfl
theorem exec_xor (x : MemRef) (s : State) : exec (.xor x) s = combineA (· ^^^ ·) x s := rfl
theorem exec_ior (x : MemRef) (s : State) : exec (.ior x) s = combineA (· ||| ·) x s := rfl
theorem exec_jmp (x : MemRef) (s : State) : exec (.jmp x) s = jump x s := rfl

/-- Settles O34: rows 1100 and 1101 of R83, and a load writes its register alone. -/
theorem loadTakesWord : Obligations.LoadTakesWord := by
  have lda_row : mrgEncoding 0b1100 .lda := mrgEncoding_of_mrgInstr (by decide) fun _ => rfl
  have ldb_row : mrgEncoding 0b1101 .ldb := mrgEncoding_of_mrgInstr (by decide) fun _ => rfl
  refine ⟨lda_row, ldb_row, fun s x m v hm hv => ?_⟩
  have load (r : Reg) : loadMem r x s = .next (s.setReg r v) :=
    loadMem_eq_next.mpr ⟨v, operand_eq_next.mpr ⟨m, hm, hv⟩, rfl⟩
  exact ⟨(exec_lda x s).trans (load .A), (exec_ldb x s).trans (load .B)⟩

/-- Settles O38: rows 0010, 0100 and 0110 of R83, and the three share the operation that writes A alone. -/
theorem logicCombinesA : Obligations.LogicCombinesA := by
  have and_row : mrgEncoding 0b0010 .and := mrgEncoding_of_mrgInstr (by decide) fun _ => rfl
  have xor_row : mrgEncoding 0b0100 .xor := mrgEncoding_of_mrgInstr (by decide) fun _ => rfl
  have ior_row : mrgEncoding 0b0110 .ior := mrgEncoding_of_mrgInstr (by decide) fun _ => rfl
  refine ⟨and_row, xor_row, ior_row, fun s x m v hm hv => ?_⟩
  have combine (f : Word → Word → Word) : combineA f x s = .next (s.setReg .A (f s.a v)) :=
    combineA_eq_next.mpr ⟨v, operand_eq_next.mpr ⟨m, hm, hv⟩, rfl⟩
  exact ⟨(exec_and x s).trans (combine _), (exec_xor x s).trans (combine _), (exec_ior x s).trans (combine _)⟩

/-- Settles O40: row 0101 of R83, and a jump asks for the effective address only. -/
theorem jumpSetsP : Obligations.JumpSetsP := by
  have jmp_row : mrgEncoding 0b0101 .jmp := mrgEncoding_of_mrgInstr (by decide) fun _ => rfl
  refine ⟨jmp_row, fun s x m hm => ?_⟩
  have jumps : jump x s = .next (s.setP m) := jump_eq_next.mpr ⟨m, hm, rfl⟩
  exact (exec_jmp x s).trans jumps

end Sys2Proof.Machine
end

section
/-! PROOFS. The invariant: every primitive update of an instruction, every action of an agent and the fetch keep it,
and it holds at reset. -/

namespace Sys2Proof.Machine

/-- A held priority level has flag and control bit set (R245, R250): `State.Inv.ackHeld` of one interface. -/
def Interface.ackSound (d : Interface) : Prop := d.ack = true → d.flag = true ∧ d.ctl = true

/-- Clearing the flag or the control bit clears the mark with it, and setting one keeps both (D21). -/
theorem Interface.ackSound_of_ifaceStep {d d' : Interface} (h : d.ackSound) (step : ifaceStep d d') : d'.ackSound := by
  rcases step with ⟨v, rfl⟩ | ⟨v, rfl⟩ | ⟨v, rfl⟩
  · cases v
    · simp [ackSound]
    · simpa [ackSound] using fun hack => (h hack).2
  · cases v
    · simp [ackSound]
    · simpa [ackSound] using fun hack => (h hack).1
  · exact h

namespace State.Inv

variable {s t : State}

/-- The invariant speaks of the parameters, the memory and the interfaces only. -/
theorem of_same (h : s.Inv) (hcfg : t.cfg = s.cfg) (hmem : t.mem = s.mem) (hiface : ∀ k, t.iface k = s.iface k) :
    t.Inv where
  memSize := hcfg ▸ h.memSize
  memCanonical := hmem ▸ h.memCanonical
  memInstalled := by rw [hmem, hcfg]; exact h.memInstalled
  lowSlotsEmpty := fun sc hsc => (hiface sc).trans (h.lowSlotsEmpty sc hsc)
  ackHeld := fun sc d hd => h.ackHeld sc d ((hiface sc).symm.trans hd)

/-- A word written to the installed memory is listed in its two cells, which are above those of locations 0 and 1. -/
theorem setWord (h : s.Inv) {a : Addr} (v : Word) (h0 : a ≠ 0) (h1 : a ≠ 1) (ha : a.toNat < s.cfg.memWords) :
    (s.setMem (s.mem.setWord a v)).Inv where
  memSize := h.memSize
  memCanonical := Memory.setWord_wf h.memCanonical a v
  memInstalled := by
    intro k u hk
    have a_ne_0 : a.toNat ≠ 0 := fun e => h0 (BitVec.eq_of_toNat_eq e)
    have a_ne_1 : a.toNat ≠ 1 := fun e => h1 (BitVec.eq_of_toNat_eq e)
    simp only [setMem_cfg]
    rcases Memory.mem_setWord hk with rfl | rfl | listed
    · omega
    · omega
    · exact h.memInstalled k u listed
  lowSlotsEmpty := h.lowSlotsEmpty
  ackHeld := h.ackHeld

/-- An interface at 10 or above may be changed to one whose mark is sound. -/
theorem setIface (h : s.Inv) {c : SelectCode} {d : Interface} (hc : 8 ≤ c.toNat) (hd : d.ackSound) :
    (s.setIface c d).Inv where
  memSize := h.memSize
  memCanonical := h.memCanonical
  memInstalled := h.memInstalled
  lowSlotsEmpty := by
    intro sc hsc
    have other : sc ≠ c := by rintro rfl; omega
    rw [iface_setIface, if_neg other, h.lowSlotsEmpty sc hsc]
  ackHeld := by
    intro sc d' hd'
    rw [iface_setIface] at hd'
    split at hd'
    · cases hd'; exact hd
    · exact h.ackHeld sc d' hd'

/-- An interface is installed at 10 or above only. -/
theorem iface_high (h : s.Inv) {c : SelectCode} {d : Interface} (hd : s.iface c = some d) : 8 ≤ c.toNat := by
  by_contra low
  rw [h.lowSlotsEmpty c (by omega)] at hd
  cases hd

/-- CLC 00 leaves no mark, so none that is unsound. -/
theorem clearControls (h : s.Inv) : (clearControls s).Inv where
  memSize := h.memSize
  memCanonical := h.memCanonical
  memInstalled := h.memInstalled
  lowSlotsEmpty := fun sc hsc => by simp [h.lowSlotsEmpty sc hsc]
  ackHeld := by
    intro sc d hd hack
    obtain ⟨d', -, rfl⟩ : ∃ d', s.iface sc = some d' ∧ d'.setCtl false = d := by simpa using hd
    simp at hack

/-- The option boards are no part of the invariant. -/
theorem boardStep (h : s.Inv) (hb : boardStep s t) : t.Inv := by
  rcases hb with ⟨b, b', -, rfl⟩ | ⟨g, g', -, -, rfl⟩
  · exact h.of_same rfl rfl fun _ => rfl
  · exact h.of_same rfl rfl fun _ => rfl

end State.Inv

/-- Every primitive update of an instruction keeps the invariant. -/
theorem inv_keptByUpdates : KeptByUpdates State.Inv where
  reg _ r v h := h.of_same (by simp) (by simp) (by simp)
  e _ _ h := h.of_same rfl rfl fun _ => rfl
  o _ _ h := h.of_same rfl rfl fun _ => rfl
  p _ _ h := h.of_same rfl rfl fun _ => rfl
  halt _ h := h.of_same rfl rfl fun _ => rfl
  ien _ _ h := h.of_same rfl rfl fun _ => rfl
  sreg _ _ h := h.of_same rfl rfl fun _ => rfl
  mem _ _ v h0 h1 ha h := h.setWord v h0 h1 ha
  iface _ c d _ hc hd hstep h := h.setIface hc (Interface.ackSound_of_ifaceStep (h.ackHeld c d hd) hstep)
  clear _ h := h.clearControls
  board _ _ hb h := h.boardStep hb

/-- An agent sets a flag or writes an input register: no mark becomes unsound. -/
theorem State.Inv.agentAct {s : State} (h : s.Inv) (x : AgentAction) : (agentAct s x).Inv := by
  rcases agentAct_cases s x with same | ⟨v, switches⟩ | ⟨c, d, d', hd, device, change⟩
  · rwa [same]
  · rw [switches]; exact h.of_same rfl rfl fun _ => rfl
  · rw [device]
    have sound : d.ackSound := h.ackHeld c d hd
    refine h.setIface (h.iface_high hd) ?_
    rcases change with rfl | ⟨v, rfl⟩
    · exact fun hack => ⟨rfl, (sound hack).2⟩
    · exact sound

theorem State.Inv.agentsAct {s : State} (h : s.Inv) : (agentsAct s).Inv :=
  agentsAct_induction h (fun _ x hu => hu.agentAct x) fun _ _ hu => hu.of_same rfl rfl fun _ => rfl

/-- The channel whose interrupt is taken requests: its interface has flag and control bit set (R243, R246). -/
theorem pendingInterrupt_requests {s : State} {c : SelectCode} (h : s.pendingInterrupt = some c) :
    8 ≤ c.toNat ∧ ∃ d, s.iface c = some d ∧ d.flag = true ∧ d.ctl = true := by
  obtain ⟨-, lowest, -⟩ := pendingInterrupt_some h
  exact requests_iff.mp (lowestRequest_eq_some.mp lowest).1

/-- The mark an interrupt sets is sound, since its channel requests. -/
theorem State.Inv.fetched {s : State} (h : s.Inv) : (fetched s).Inv := by
  cases hp : s.pendingInterrupt with
  | none => rw [fetched_none hp]; exact h.of_same rfl rfl fun _ => rfl
  | some c =>
    obtain ⟨hc, d, hd, hflag, hctl⟩ := pendingInterrupt_requests hp
    have entered : ((s.setCir c).setFa (c.setWidth 15)).Inv := h.of_same rfl rfl fun _ => rfl
    rw [fetched_some hp, takeInterrupt_eq hd]
    exact entered.setIface hc fun _ => ⟨hflag, hctl⟩

/-- Settles O13: the agents, the fetch and every primitive update of the instruction keep the invariant. -/
theorem stepKeepsInvariant : Obligations.StepKeepsInvariant := by
  intro s t hs ht
  obtain ⟨-, i, hi⟩ := step_eq_next ht
  exact inv_keptByUpdates.exec i hs.agentsAct.fetched hi

/-- What is installed at reset (log entry 8). -/
theorem reset_iface (sc : SelectCode) : State.reset.iface sc = if sc.toNat < 8 then none else some {} := by
  revert sc; decide

/-- Settles O12: nothing is listed in memory, and every interface is the default one, with no mark. -/
theorem invariantAtReset : Obligations.InvariantAtReset where
  memSize := by decide
  memCanonical := reset_mem_wf
  memInstalled := by intro k v h; cases h
  lowSlotsEmpty := fun sc hsc => by rw [reset_iface, if_pos hsc]
  ackHeld := by
    intro sc d hd hack
    rw [reset_iface] at hd
    split at hd
    · cases hd
    · cases hd; cases hack

/-- Settles O60: the fields of the launch state, and its interfaces below and above 10. -/
theorem launchState : Obligations.LaunchState := by
  refine ⟨rfl, rfl, rfl, rfl, rfl, fun sc => ⟨fun high => ⟨{}, ?_, rfl, rfl⟩, fun low => ?_⟩⟩
  · rw [reset_iface, if_neg (by omega)]
  · rw [reset_iface, if_pos low]

end Sys2Proof.Machine
end

section
/-! PROOFS. No step changes a parameter or what is installed. -/

namespace Sys2Proof.Machine

/-- The parameters and what is installed are the same in both states (R8). -/
def sameConfiguration (s t : State) : Prop :=
  t.cfg = s.cfg ∧ (∀ sc, (t.iface sc).isSome = (s.iface sc).isSome) ∧ t.dma.isSome = s.dma.isSome ∧
  t.guard.map (fun g => (g.protect.isSome, g.parity.isSome)) =
    s.guard.map (fun g => (g.protect.isSome, g.parity.isSome))

namespace sameConfiguration

variable {s t u : State}

theorem refl (s : State) : sameConfiguration s s := ⟨rfl, fun _ => rfl, rfl, rfl⟩

theorem trans (h : sameConfiguration s t) (h' : sameConfiguration t u) : sameConfiguration s u := by
  obtain ⟨hcfg, hiface, hdma, hguard⟩ := h
  obtain ⟨hcfg', hiface', hdma', hguard'⟩ := h'
  exact ⟨hcfg'.trans hcfg, fun sc => (hiface' sc).trans (hiface sc), hdma'.trans hdma, hguard'.trans hguard⟩

/-- Updates of the other fields. -/
theorem of_same (hcfg : t.cfg = s.cfg) (hiface : ∀ k, t.iface k = s.iface k) (hdma : t.dma = s.dma)
    (hguard : t.guard = s.guard) : sameConfiguration s t :=
  ⟨hcfg, fun sc => congrArg Option.isSome (hiface sc), congrArg Option.isSome hdma, congrArg _ hguard⟩

/-- An installed interface may change. -/
theorem setIface {c : SelectCode} {d d' : Interface} (hd : s.iface c = some d) :
    sameConfiguration s (s.setIface c d') := by
  refine ⟨rfl, fun sc => ?_, rfl, rfl⟩
  rw [iface_setIface]
  split
  · subst_vars; simp [hd]
  · rfl

/-- CLC 00 changes installed interfaces and an installed DMA board. -/
theorem clearControls : sameConfiguration s (clearControls s) :=
  ⟨rfl, fun sc => by simp, by simp [Machine.clearControls], rfl⟩

/-- An installed board's registers may change. -/
theorem boardStep (hb : boardStep s t) : sameConfiguration s t := by
  rcases hb with ⟨b, b', hdma, rfl⟩ | ⟨g, g', hguard, ⟨hprotect, hparity⟩, rfl⟩
  · exact ⟨rfl, fun _ => rfl, by simp [hdma], rfl⟩
  · exact ⟨rfl, fun _ => rfl, rfl, by simp [hguard, hprotect, hparity]⟩

/-- An agent changes an installed interface, or S. -/
theorem agentAct (s : State) (x : AgentAction) : sameConfiguration s (agentAct s x) := by
  rcases agentAct_cases s x with same | ⟨v, switches⟩ | ⟨c, d, d', hd, device, -⟩
  · rw [same]; exact refl s
  · rw [switches]; exact of_same rfl (fun _ => rfl) rfl rfl
  · rw [device]; exact setIface hd

theorem agentsAct (s : State) : sameConfiguration s (agentsAct s) :=
  agentsAct_induction (P := sameConfiguration s) (refl s) (fun u x hu => hu.trans (agentAct u x))
    fun _ _ hu => hu.trans (of_same rfl (fun _ => rfl) rfl rfl)

/-- Taking an interrupt marks an installed interface. -/
theorem fetched (s : State) : sameConfiguration s (fetched s) := by
  cases hp : s.pendingInterrupt with
  | none => rw [fetched_none hp]; exact of_same rfl (fun _ => rfl) rfl rfl
  | some c =>
    obtain ⟨-, -, d, hd, -⟩ := pendingInterrupt_some hp
    have entered : sameConfiguration s ((s.setCir c).setFa (c.setWidth 15)) := of_same rfl (fun _ => rfl) rfl rfl
    rw [fetched_some hp, takeInterrupt_eq hd]
    exact entered.trans (setIface (d := d) (by simpa using hd))

/-- Every primitive update of an instruction keeps what is installed. -/
theorem keptByUpdates (s : State) : KeptByUpdates (sameConfiguration s) where
  reg _ _ _ h := h.trans (of_same (by simp) (by simp) (by simp) (by simp))
  e _ _ h := h.trans (of_same rfl (fun _ => rfl) rfl rfl)
  o _ _ h := h.trans (of_same rfl (fun _ => rfl) rfl rfl)
  p _ _ h := h.trans (of_same rfl (fun _ => rfl) rfl rfl)
  halt _ h := h.trans (of_same rfl (fun _ => rfl) rfl rfl)
  ien _ _ h := h.trans (of_same rfl (fun _ => rfl) rfl rfl)
  sreg _ _ h := h.trans (of_same rfl (fun _ => rfl) rfl rfl)
  mem _ _ _ _ _ _ h := h.trans (of_same rfl (fun _ => rfl) rfl rfl)
  iface _ _ _ _ _ hd _ h := h.trans (setIface hd)
  clear _ h := h.trans clearControls
  board _ _ hb h := h.trans (boardStep hb)

end sameConfiguration

/-- Settles O14: the agents, the fetch and every primitive update of the instruction keep what is installed. -/
theorem stepKeepsConfiguration : Obligations.StepKeepsConfiguration := by
  intro s t ht
  obtain ⟨-, i, hi⟩ := step_eq_next ht
  have before : sameConfiguration s (fetched (agentsAct s)) :=
    (sameConfiguration.agentsAct s).trans (sameConfiguration.fetched _)
  exact (sameConfiguration.keptByUpdates s).exec i before hi

end Sys2Proof.Machine
end

section
/-! PROOFS. The canonical form of memory is unique. -/

namespace Sys2Proof.Machine

/-- The first cell of a canonical memory is read as it is listed, and is not an unlisted one. -/
theorem Memory.byteAt_head {k : Nat} {v : BitVec 8} {m : Memory} {lo : Nat}
    (h : Memory.wfAbove lo ((k, v) :: m) = true) : Memory.byteAt ((k, v) :: m) k = v ∧ v ≠ unlistedByte := by
  simp only [wfAbove, Bool.and_eq_true, bne_iff_ne] at h
  obtain ⟨⟨-, listed⟩, -⟩ := h
  exact ⟨by simp [byteAt_cons], listed⟩

/-- The cells after the first one of a canonical memory are above it. -/
theorem Memory.wfAbove_tail {k : Nat} {v : BitVec 8} {m : Memory} {lo : Nat}
    (h : Memory.wfAbove lo ((k, v) :: m) = true) : lo ≤ k ∧ Memory.wfAbove (k + 1) m = true := by
  simp only [wfAbove, Bool.and_eq_true, decide_eq_true_eq] at h
  obtain ⟨⟨above, -⟩, tail⟩ := h
  exact ⟨above, tail⟩

/-- The first cell of a canonical memory is not below that of one that reads alike: it would read as unlisted there. -/
theorem Memory.head_le_of_byteAt_eq {k j : Nat} {v u : BitVec 8} {m n : Memory} {lo lo' : Nat}
    (hm : Memory.wfAbove lo ((k, v) :: m) = true) (hn : Memory.wfAbove lo' ((j, u) :: n) = true)
    (same : ∀ i, Memory.byteAt ((k, v) :: m) i = Memory.byteAt ((j, u) :: n) i) : j ≤ k := by
  by_contra below
  obtain ⟨listed, not_unlisted⟩ := byteAt_head hm
  have unlisted : Memory.byteAt ((j, u) :: n) k = unlistedByte := by
    rw [byteAt_cons, if_neg (by omega), byteAt_below (wfAbove_tail hn).2 (by omega)]
  exact not_unlisted (listed ▸ (same k).trans unlisted)

/-- Canonical memories that read alike have the same first cell, and so on down the list. -/
theorem Memory.eq_of_byteAt_eq {m n : Memory} {lo : Nat} (hm : Memory.wfAbove lo m = true)
    (hn : Memory.wfAbove lo n = true) (same : ∀ k, m.byteAt k = n.byteAt k) : m = n := by
  induction m generalizing n lo with
  | nil =>
    cases n with
    | nil => rfl
    | cons c n =>
      obtain ⟨j, u⟩ := c
      obtain ⟨listed, not_unlisted⟩ := byteAt_head hn
      exact absurd (listed.symm.trans (same j).symm) not_unlisted
  | cons c m ih =>
    obtain ⟨k, v⟩ := c
    obtain ⟨listed, not_unlisted⟩ := byteAt_head hm
    cases n with
    | nil => exact absurd (listed.symm.trans (same k)) not_unlisted
    | cons c n =>
      obtain ⟨j, u⟩ := c
      obtain rfl : j = k :=
        Nat.le_antisymm (head_le_of_byteAt_eq hm hn same) (head_le_of_byteAt_eq hn hm fun i => (same i).symm)
      obtain rfl : v = u := by rw [← listed, same, (byteAt_head hn).1]
      have tails : ∀ i, Memory.byteAt m i = Memory.byteAt n i := by
        intro i
        by_cases first : j = i
        · subst first
          rw [byteAt_below (wfAbove_tail hm).2 (by omega), byteAt_below (wfAbove_tail hn).2 (by omega)]
        · simpa [byteAt_cons, first] using same i
      rw [ih (wfAbove_tail hm).2 (wfAbove_tail hn).2 tails]

/-- Settles O15, by induction on the two lists. -/
theorem canonicalMemoriesEqual : Obligations.CanonicalMemoriesEqual := fun _ _ hm hn same =>
  Memory.eq_of_byteAt_eq hm hn same

end Sys2Proof.Machine
end

section
/-! PROOFS. The step and its interrupts. -/

namespace Sys2Proof.Machine

open Sys2Proof.Statement

/-- A running processor whose fetched word decodes runs its instruction in the fetched state (R14). -/
theorem step_eq_exec {s : State} {w : Word} {i : Instr} (hrun : s.run = true)
    (hw : fetchWord (agentsAct s) = .next w) (hi : decode w = .ok i) : step s = exec i (fetched (agentsAct s)) := by
  simp [step, hrun, hw, decodeFetched_eq_next.mpr hi]

/-- The flag or the input register of one interface, where one is installed, is all a device's agent changes (R193). -/
theorem agentAct_effect (v : State) (x : AgentAction) : agentEffect v x (agentAct v x) := by
  cases x with
  | setFlag c =>
    cases hd : v.iface c with
    | none => exact ⟨by simp [agentAct, hd], fun k => by simp +contextual [agentAct, hd]⟩
    | some d => exact ⟨by simp [agentAct, hd]; rfl, fun k => by simp [agentAct, hd]⟩
  | writeIbuf c w =>
    cases hd : v.iface c with
    | none => exact ⟨by simp [agentAct, hd], fun k => by simp +contextual [agentAct, hd]⟩
    | some d => exact ⟨by simp [agentAct, hd]; rfl, fun k => by simp [agentAct, hd]⟩
  | setSwitches w => rfl

/-- Settles O5: without an interrupt the fetch is at P and advances it; the agents' part is the agenda's first list. -/
theorem stepRunsDecodedInstruction : Obligations.StepRunsDecodedInstruction := by
  rintro s u w i hrun rfl hp hw hi
  have fetch : fetchWord (agentsAct s) = .next w := by rw [fetchWord, fetchAddr_none hp, hw]
  refine ⟨?_, agentsAct_nil, fun _ _ => agentsAct_cons, agentAct_effect⟩
  rw [step_eq_exec hrun fetch hi, fetched_none hp]
  rfl

/-- A state is known from its interfaces, one by one, and its other fields. -/
theorem slots_eq_of_iface {s t : State} (h : ∀ k, s.iface k = t.iface k) : s.slots = t.slots := by
  apply Vector.ext
  intro n hn
  have := h (BitVec.ofNat 6 n)
  simpa [State.iface, Nat.mod_eq_of_lt hn] using this

/-- Settles O6: the entry state of R247 is the one the fetch of an interrupt makes. -/
theorem stepTakesInterrupt : Obligations.StepTakesInterrupt := by
  rintro s u v c w i d hrun rfl hp hd hw hi hv hc hother
  have fetch : fetchWord (agentsAct s) = .next w := by rw [fetchWord, fetchAddr_some hp, hw]
  have slots : (takeInterrupt c (agentsAct s)).slots = v.slots := by
    apply slots_eq_of_iface
    intro k
    rw [takeInterrupt_eq hd, iface_setIface]
    split
    · subst_vars; exact hc.symm
    · rename_i hk; exact (hother k hk).symm
  have entry : takeInterrupt c (agentsAct s) = v := by
    rw [hv, ← slots, takeInterrupt_eq hd]
    rfl
  rw [step_eq_exec hrun fetch hi, fetched_some hp, entry]

/-- Settles O7: the run bit is looked at first, then the fetch, then the decoder. -/
theorem stepStops : Obligations.StepStops := by
  refine ⟨fun s halted => ?_, fun s w hrun hw hdecode => ?_, fun s hrun absent => ?_⟩
  · simp [step, halted]
  · simp [step, hrun, hw, decodeFetched, hdecode]
  · simp [step, hrun, fetchWord, memRead_absent absent]

/-- The interrupt taken is that of the lowest requesting channel, if it is not acknowledged (R246). -/
theorem pendingInterrupt_iff {s : State} {c : SelectCode} :
    s.pendingInterrupt = some c ↔
      s.ien = true ∧ s.lowestRequest = some c ∧ ∃ d, s.iface c = some d ∧ d.ack = false := by
  refine ⟨pendingInterrupt_some, ?_⟩
  rintro ⟨hien, lowest, d, hd, hack⟩
  simp [State.pendingInterrupt, hien, lowest, hd, hack]

/-- A channel does not request: any interface there has flag or control bit clear. -/
theorem requests_eq_false {s : State} {k : SelectCode} :
    s.requests k = false ↔ ∀ d, 8 ≤ k.toNat → s.iface k = some d → ¬ (d.flag = true ∧ d.ctl = true) := by
  rw [← Bool.not_eq_true, requests_iff]
  constructor
  · rintro none_requests d hk hd set
    exact none_requests ⟨hk, d, hd, set⟩
  · rintro clear ⟨hk, d, hd, set⟩
    exact clear d hk hd set

/-- Settles O8: the lowest request is a request with none below it, and the mark is looked at last. -/
theorem interruptTakenExactlyWhen : Obligations.InterruptTakenExactlyWhen := by
  intro s c
  rw [pendingInterrupt_iff, lowestRequest_eq_some, requests_iff]
  constructor
  · rintro ⟨hien, ⟨⟨hc, d, hd, hflag, hctl⟩, lower⟩, d', hd', hack⟩
    obtain rfl : d = d' := Option.some.inj (hd.symm.trans hd')
    exact ⟨hien, hc, ⟨d, hd, hflag, hctl, hack⟩, fun k d hk hkc => requests_eq_false.mp (lower k hkc) d hk⟩
  · rintro ⟨hien, hc, ⟨d, hd, hflag, hctl, hack⟩, lower⟩
    exact ⟨hien, ⟨⟨hc, d, hd, hflag, hctl⟩, fun k hkc => requests_eq_false.mpr fun d hk => lower k d hk hkc⟩,
      d, hd, hack⟩

/-- Settles O9: the held channel requests, so the lowest request is not above it; it is marked, so it is not it. -/
theorem heldLevelBlocksLowerPriority : Obligations.HeldLevelBlocksLowerPriority := by
  intro s c c' d hc hd hack hflag hctl hp
  obtain ⟨-, -, ⟨d', hd', -, -, hack'⟩, lower⟩ := (interruptTakenExactlyWhen s c').mp hp
  rcases Nat.lt_trichotomy c'.toNat c.toNat with below | same | above
  · exact below
  · obtain rfl : c' = c := BitVec.eq_of_toNat_eq same
    obtain rfl : d = d' := Option.some.inj (hd.symm.trans hd')
    rw [hack] at hack'; cases hack'
  · exact absurd ⟨hflag, hctl⟩ (lower c d hc above hd)

/-- Settles O10: IEN is looked at first. -/
theorem noInterruptWhileDisabled : Obligations.NoInterruptWhileDisabled := by
  intro s hien
  have none_pending : s.pendingInterrupt = none := by simp [State.pendingInterrupt, hien]
  exact ⟨none_pending, fetchAddr_none none_pending, by rw [fetched_none none_pending]; rfl⟩

end Sys2Proof.Machine
end

section
/-! PROOFS. Decoding and encoding: a word is the row of its fields, and each format's fields name one instruction. -/

namespace Sys2Proof

/-! ## A word as the row of its fields -/

theorem field_toNat (w : Word) (lo len : Nat) : (field w lo len).toNat = w.toNat / 2 ^ lo % 2 ^ len := by
  simp [field, Nat.shiftRight_eq_div_pow]

/-- Two neighbouring fields are one field. -/
theorem field_append (w : Word) {hi n lo len : Nat} (h : hi = lo + len) :
    field w hi n ++ field w lo len = field w lo (n + len) :=
  BitVec.extractLsb'_append_extractLsb'_eq_extractLsb' h

/-- A bit is a field of length one. -/
theorem ofFlag_bit (w : Word) (i : Nat) : ofFlag (bit w i) = field w i 1 := by
  apply BitVec.eq_of_getLsbD_eq
  intro j hj
  obtain rfl : j = 0 := by omega
  simp [ofFlag, bit, field]

theorem regBit_regOfBit (b : Bool) : regBit (regOfBit b) = ofFlag b := by cases b <;> rfl

theorem shiftBits_shiftOfBits (v : BitVec 3) : shiftBits (shiftOfBits v) = v := by revert v; decide

theorem alterBits_alterOfBits (v : BitVec 2) : alterBits (alterOfBits v) = v := by revert v; decide

/-- Bits 15:12 and 10 of a shift-rotate word are 0 (R84); its other bits are its fields. -/
theorem encodeSrg_srgFields {w : Word} (group : field w 12 4 = 0#4) (bit10 : bit w 10 = false) :
    encodeSrg (srgFields w) = w := by
  have h10 : (0#1 : BitVec 1) = field w 10 1 := by rw [← ofFlag_bit, bit10]; rfl
  simp only [encodeSrg, srgFields, regBit_regOfBit, shiftBits_shiftOfBits, ofFlag_bit]
  rw [h10, ← group]
  iterate 8 rw [field_append w (by rfl)]
  exact extract_all w

/-- Bits 15:12 of an alter-skip word are 0 and bit 10 is 1 (R86); its other bits are its fields. -/
theorem encodeAsg_asgFields {w : Word} (group : field w 12 4 = 0#4) (bit10 : bit w 10 = true) :
    encodeAsg (asgFields w) = w := by
  have h10 : (1#1 : BitVec 1) = field w 10 1 := by rw [← ofFlag_bit, bit10]; rfl
  simp only [encodeAsg, asgFields, regBit_regOfBit, alterBits_alterOfBits, ofFlag_bit]
  rw [h10, ← group]
  iterate 10 rw [field_append w (by rfl)]
  exact extract_all w

/-- Bits 15:12 of an input/output word are 1000 and bit 10 is 1 (R87); its other bits are its fields. -/
theorem encodeIog_iogFields {w : Word} (group : field w 12 4 = 8#4) (bit10 : bit w 10 = true) :
    encodeIog (bit w 11) (bit w 9) (field w 6 3) (field w 0 6) = w := by
  have h10 : (1#1 : BitVec 1) = field w 10 1 := by rw [← ofFlag_bit, bit10]; rfl
  simp only [encodeIog, ofFlag_bit]
  rw [h10, ← group]
  iterate 5 rw [field_append w (by rfl)]
  exact extract_all w

/-- Every bit of a memory reference word is in a field (R82). -/
theorem encodeMrg_mrgFields (w : Word) : encodeMrg (field w 11 4) (memRef w) = w := by
  simp only [encodeMrg, memRef, ofFlag_bit]
  iterate 3 rw [field_append w (by rfl)]
  exact extract_all w

/-! ## The groups of the decoder (R81) -/

/-- Bits 15:12 are bit 15 above bits 14:12. -/
theorem field_12_4 (w : Word) : field w 12 4 = ofFlag (bit w 15) ++ field w 12 3 := by
  rw [ofFlag_bit, field_append w (by rfl)]

/-- Bits 14:12 are the three high bits of the code of bits 14:11. -/
theorem field_12_3 (w : Word) : (field w 11 4).extractLsb' 1 3 = field w 12 3 := by
  apply BitVec.eq_of_getLsbD_eq
  intro i hi
  simp [field, hi, show 1 + i < 4 by omega, show 11 + (1 + i) = 12 + i by omega]

theorem decode_mrg {w : Word} (h : field w 12 3 ≠ 0) : decode w = .ok (mrgInstr (field w 11 4) (memRef w)) := by
  rw [decode, if_pos h]

theorem decode_srg {w : Word} (h : field w 12 3 = 0) (bit15 : bit w 15 = false) (bit10 : bit w 10 = false) :
    decode w = .ok (srgInstr (srgFields w)) := by simp [decode, h, bit15, bit10]

theorem decode_asg {w : Word} (h : field w 12 3 = 0) (bit15 : bit w 15 = false) (bit10 : bit w 10 = true) :
    decode w = .ok (asgInstr (asgFields w)) := by simp [decode, h, bit15, bit10]

theorem decode_iog {w : Word} (h : field w 12 3 = 0) (bit15 : bit w 15 = true) (bit10 : bit w 10 = true) :
    decode w = .ok (iogInstr (bit w 11) (bit w 9) (field w 6 3) (field w 0 6)) := by simp [decode, h, bit15, bit10]

theorem decode_unlisted {w : Word} (h : field w 12 3 = 0) (bit15 : bit w 15 = true) (bit10 : bit w 10 = false) :
    decode w = .error .unlisted := by simp [decode, h, bit15, bit10]

/-- What the decoder can answer: the instruction of a word's fields in one of the four formats, or a rejection. -/
theorem decode_cases (w : Word) :
    (field w 12 3 ≠ 0 ∧ decode w = .ok (mrgInstr (field w 11 4) (memRef w))) ∨
    (field w 12 4 = 0#4 ∧ bit w 10 = false ∧ decode w = .ok (srgInstr (srgFields w))) ∨
    (field w 12 4 = 0#4 ∧ bit w 10 = true ∧ decode w = .ok (asgInstr (asgFields w))) ∨
    (field w 12 4 = 8#4 ∧ bit w 10 = true ∧
      decode w = .ok (iogInstr (bit w 11) (bit w 9) (field w 6 3) (field w 0 6))) ∨
    (field w 12 4 = 8#4 ∧ bit w 10 = false ∧ decode w = .error .unlisted) := by
  by_cases h : field w 12 3 = 0
  · rw [field_12_4, h]
    cases bit15 : bit w 15 <;> cases bit10 : bit w 10
    · exact .inr (.inl ⟨rfl, rfl, decode_srg h bit15 bit10⟩)
    · exact .inr (.inr (.inl ⟨rfl, rfl, decode_asg h bit15 bit10⟩))
    · exact .inr (.inr (.inr (.inr ⟨rfl, rfl, decode_unlisted h bit15 bit10⟩)))
    · exact .inr (.inr (.inr (.inl ⟨rfl, rfl, decode_iog h bit15 bit10⟩)))
  · exact .inl ⟨h, decode_mrg h⟩

/-- The fixed bits of a shift-rotate word put it in its group (R81, R84). -/
theorem decode_encodeSrg (w : SrgWord) : decode (encodeSrg w) = .ok (srgInstr w) := by
  have group : field (encodeSrg w) 12 3 = 0 := by
    unfold field encodeSrg
    iterate 8 rw [extract_append_high _ _ (by decide)]
    decide
  have bit15 : bit (encodeSrg w) 15 = false := by simp only [bit, encodeSrg, BitVec.getLsbD_append]; simp
  have bit10 : bit (encodeSrg w) 10 = false := by simp only [bit, encodeSrg, BitVec.getLsbD_append]; simp
  rw [decode_srg group bit15 bit10, srgFields_encodeSrg]

/-- The fixed bits of an alter-skip word put it in its group (R81, R86). -/
theorem decode_encodeAsg (w : AsgWord) : decode (encodeAsg w) = .ok (asgInstr w) := by
  have group : field (encodeAsg w) 12 3 = 0 := by
    unfold field encodeAsg
    iterate 10 rw [extract_append_high _ _ (by decide)]
    decide
  have bit15 : bit (encodeAsg w) 15 = false := by simp only [bit, encodeAsg, BitVec.getLsbD_append]; simp
  have bit10 : bit (encodeAsg w) 10 = true := by simp only [bit, encodeAsg, BitVec.getLsbD_append]; simp
  rw [decode_asg group bit15 bit10, asgFields_encodeAsg]

/-! ## The shift-rotate words by their first micro-instruction (R94) -/

/-- The forms of a shift-rotate word. A disabled code that does nothing is `idle`; one that is not is a rotate with E
(R91, R123). -/
inductive SrgWord.Shape : SrgWord → Prop
  | first (r : Reg) (c : ShiftCode) (cle sl : Bool) (s2 : Slot) : Shape (SrgWord.first r c cle sl s2)
  | firstOff (r : Reg) {c : ShiftCode} (cle sl : Bool) (s2 : Slot) (rotate : c.idle = false) :
      Shape (SrgWord.firstOff r c cle sl s2)
  | fromCle (r : Reg) {c1 : ShiftCode} (sl : Bool) (s2 : Slot) (h1 : c1.idle = true) :
      Shape (SrgWord.fromCle r c1 sl s2)
  | fromSl (r : Reg) {c1 : ShiftCode} (s2 : Slot) (h1 : c1.idle = true) : Shape (SrgWord.fromSl r c1 s2)
  | second (r : Reg) {c1 : ShiftCode} (c : ShiftCode) (h1 : c1.idle = true) : Shape (SrgWord.second r c1 c)
  | secondOff (r : Reg) {c1 c : ShiftCode} (h1 : c1.idle = true) (rotate : c.idle = false) :
      Shape (SrgWord.secondOff r c1 c)
  | idle (r : Reg) {c1 c2 : ShiftCode} (h1 : c1.idle = true) (h2 : c2.idle = true) : Shape (SrgWord.idle r c1 c2)

/-- Every shift-rotate word has one of the forms. -/
theorem SrgWord.shape (w : SrgWord) : w.Shape := by
  obtain ⟨r, ⟨en1, c1⟩, cle, sl, ⟨en2, c2⟩⟩ := w
  cases en1 with
  | true => exact .first r c1 cle sl ⟨en2, c2⟩
  | false =>
    cases h1 : c1.idle with
    | false => exact .firstOff r cle sl ⟨en2, c2⟩ h1
    | true =>
      cases cle with
      | true => exact .fromCle r sl ⟨en2, c2⟩ h1
      | false =>
        cases sl with
        | true => exact .fromSl r ⟨en2, c2⟩ h1
        | false =>
          cases en2 with
          | true => exact .second r c2 h1
          | false =>
            cases h2 : c2.idle with
            | false => exact .secondOff r h1 h2
            | true => exact .idle r h1 h2

/-- The codes that are not idle are the two rotates with E. -/
theorem ShiftCode.eq_of_not_idle {c : ShiftCode} (h : c.idle = false) : c = .er ∨ c = .el := by
  cases c <;> simp_all [idle]

section
variable {c1 c2 : ShiftCode} (h1 : c1.idle = true)
include h1

theorem srgInstr_fromCle (r : Reg) (sl : Bool) (s2 : Slot) :
    srgInstr (SrgWord.fromCle r c1 sl s2) = .cleSrg r c1 sl s2 := by
  cases c1 <;> cases h1 <;> rfl

theorem srgInstr_fromSl_A (s2 : Slot) : srgInstr (SrgWord.fromSl .A c1 s2) = .slaSrg c1 s2 := by
  cases c1 <;> cases h1 <;> rfl

theorem srgInstr_fromSl_B (s2 : Slot) : srgInstr (SrgWord.fromSl .B c1 s2) = .slbSrg c1 s2 := by
  cases c1 <;> cases h1 <;> rfl

theorem srgInstr_second (r : Reg) (c : ShiftCode) : srgInstr (SrgWord.second r c1 c) = secondShift r c1 c := by
  cases c1 <;> cases h1 <;> rfl

theorem srgInstr_eraDisabled2 : srgInstr (SrgWord.secondOff .A c1 .er) = .eraDisabled2 c1 := by
  cases c1 <;> cases h1 <;> rfl

theorem srgInstr_erbDisabled2 : srgInstr (SrgWord.secondOff .B c1 .er) = .erbDisabled2 c1 := by
  cases c1 <;> cases h1 <;> rfl

theorem srgInstr_elaDisabled2 : srgInstr (SrgWord.secondOff .A c1 .el) = .elaDisabled2 c1 := by
  cases c1 <;> cases h1 <;> rfl

theorem srgInstr_elbDisabled2 : srgInstr (SrgWord.secondOff .B c1 .el) = .elbDisabled2 c1 := by
  cases c1 <;> cases h1 <;> rfl

/-- The words that select nothing: NOP and the others (R91, R112). -/
theorem srgInstr_idle (h2 : c2.idle = true) (r : Reg) :
    srgInstr (SrgWord.idle r c1 c2) =
      if r == .A && c1 == .ls && c2 == .ls then .nop else .noEffectSrg r c1 c2 := by
  cases c1 <;> cases h1 <;> cases c2 <;> cases h2 <;> cases r <;> rfl

end

/-- The instruction of a shift-rotate word has that word. -/
theorem encode_srgInstr (w : SrgWord) : encode (srgInstr w) = encodeSrg w := by
  cases w.shape with
  | first r c cle sl s2 => cases r <;> cases c <;> rfl
  | firstOff r cle sl s2 rotate =>
    rcases ShiftCode.eq_of_not_idle rotate with rfl | rfl <;> cases r <;> rfl
  | fromCle r sl s2 h1 => rw [srgInstr_fromCle h1]; rfl
  | fromSl r s2 h1 =>
    cases r
    · rw [srgInstr_fromSl_A h1]; rfl
    · rw [srgInstr_fromSl_B h1]; rfl
  | second r c h1 => rw [srgInstr_second h1]; cases r <;> cases c <;> rfl
  | secondOff r h1 rotate =>
    rcases ShiftCode.eq_of_not_idle rotate with rfl | rfl <;> cases r
    · rw [srgInstr_eraDisabled2 h1]; rfl
    · rw [srgInstr_erbDisabled2 h1]; rfl
    · rw [srgInstr_elaDisabled2 h1]; rfl
    · rw [srgInstr_elbDisabled2 h1]; rfl
  | idle r h1 h2 =>
    rw [srgInstr_idle h1 h2]
    split
    · simp_all [encode]
    · rfl

/-- The instruction of a shift-rotate word is well-formed. -/
theorem srgInstr_wf (w : SrgWord) : (srgInstr w).wf = true := by
  cases w.shape with
  | first r c cle sl s2 => cases r <;> cases c <;> rfl
  | firstOff r cle sl s2 rotate =>
    rcases ShiftCode.eq_of_not_idle rotate with rfl | rfl <;> cases r <;> rfl
  | fromCle r sl s2 h1 => rw [srgInstr_fromCle h1]; exact h1
  | fromSl r s2 h1 =>
    cases r
    · rw [srgInstr_fromSl_A h1]; exact h1
    · rw [srgInstr_fromSl_B h1]; exact h1
  | second r c h1 => rw [srgInstr_second h1]; cases r <;> cases c <;> exact h1
  | secondOff r h1 rotate =>
    rcases ShiftCode.eq_of_not_idle rotate with rfl | rfl <;> cases r
    · rw [srgInstr_eraDisabled2 h1]; exact h1
    · rw [srgInstr_erbDisabled2 h1]; exact h1
    · rw [srgInstr_elaDisabled2 h1]; exact h1
    · rw [srgInstr_elbDisabled2 h1]; exact h1
  | idle r h1 h2 =>
    rw [srgInstr_idle h1 h2]
    split
    · rfl
    · rename_i not_nop
      simp only [Instr.wf, h1, h2, Bool.true_and, Bool.not_eq_true']
      exact Bool.eq_false_iff.mpr not_nop

/-! ## The alter-skip words by their first micro-instruction (R95) -/

/-- The instruction of an alter-skip word has that word and is well-formed, along the column order of R95. -/
theorem asgInstr_spec (w : AsgWord) : encode (asgInstr w) = encodeAsg w ∧ (asgInstr w).wf = true := by
  obtain ⟨r, rop, sez, eop, ss, sl, inc, sz, rss⟩ := w
  cases rop with
  | clear => cases r <;> exact ⟨rfl, rfl⟩
  | complement => cases r <;> exact ⟨rfl, rfl⟩
  | clearComplement => cases r <;> exact ⟨rfl, rfl⟩
  | none =>
    cases sez with
    | true => exact ⟨rfl, rfl⟩
    | false =>
      cases eop with
      | clear => exact ⟨rfl, rfl⟩
      | complement => exact ⟨rfl, rfl⟩
      | clearComplement => exact ⟨rfl, rfl⟩
      | none =>
        cases ss with
        | true => cases r <;> exact ⟨rfl, rfl⟩
        | false =>
          cases sl with
          | true => cases r <;> exact ⟨rfl, rfl⟩
          | false =>
            cases inc with
            | true => cases r <;> exact ⟨rfl, rfl⟩
            | false =>
              cases sz with
              | true => cases r <;> exact ⟨rfl, rfl⟩
              | false => cases rss <;> exact ⟨rfl, rfl⟩

/-! ## The input/output and memory reference words by their code -/

theorem notOverflow_iff {sc : SelectCode} : notOverflow sc = true ↔ sc ≠ 1 := by simp [notOverflow]

/-- The eight codes of bits 8:6 (R88). -/
theorem sub_cases (sub : BitVec 3) :
    sub = 0 ∨ sub = 1 ∨ sub = 2 ∨ sub = 3 ∨ sub = 4 ∨ sub = 5 ∨ sub = 6 ∨ sub = 7 := by revert sub; decide

section
variable {sc : SelectCode} (off : sc ≠ 1)
include off

/-- Off select code 01 the flag instructions have the names of their rows (R98). -/
theorem iogInstr_flag (r f : Bool) : iogInstr r f 1 sc = if f then .clf sc else .stf sc := if_neg off

theorem iogInstr_sfc (r f : Bool) : iogInstr r f 2 sc = .sfc f sc := if_neg off

theorem iogInstr_sfs (r f : Bool) : iogInstr r f 3 sc = .sfs f sc := if_neg off

end

/-- The instruction of an input/output word has that word, but for bit 11 where it does not matter (R90), and is
well-formed. -/
theorem iogInstr_spec (r f : Bool) (sub : BitVec 3) (sc : SelectCode) :
    encode (iogInstr r f sub sc) = encodeIog (r && decide (4 ≤ sub.toNat)) f sub sc ∧
      (iogInstr r f sub sc).wf = true := by
  by_cases h : sc = 1
  · subst h
    rcases sub_cases sub with rfl | rfl | rfl | rfl | rfl | rfl | rfl | rfl <;> cases r <;> cases f <;>
      exact ⟨rfl, rfl⟩
  · rcases sub_cases sub with rfl | rfl | rfl | rfl | rfl | rfl | rfl | rfl
    · cases r <;> exact ⟨rfl, rfl⟩
    · rw [iogInstr_flag h]; cases r <;> cases f <;> exact ⟨rfl, notOverflow_iff.mpr h⟩
    · rw [iogInstr_sfc h]; cases r <;> exact ⟨rfl, notOverflow_iff.mpr h⟩
    · rw [iogInstr_sfs h]; cases r <;> exact ⟨rfl, notOverflow_iff.mpr h⟩
    · cases r <;> exact ⟨rfl, rfl⟩
    · cases r <;> exact ⟨rfl, rfl⟩
    · cases r <;> exact ⟨rfl, rfl⟩
    · cases r <;> exact ⟨rfl, rfl⟩

/-- The codes of bits 14:11 of a memory reference word (R83). -/
theorem op_cases {op : BitVec 4} (h : op.extractLsb' 1 3 ≠ 0) :
    op = 2 ∨ op = 3 ∨ op = 4 ∨ op = 5 ∨ op = 6 ∨ op = 7 ∨ op = 8 ∨ op = 9 ∨ op = 10 ∨ op = 11 ∨ op = 12 ∨ op = 13 ∨
      op = 14 ∨ op = 15 := by revert op; decide

/-- The instruction of a memory reference word has that word and is well-formed. -/
theorem mrgInstr_spec {op : BitVec 4} (h : op.extractLsb' 1 3 ≠ 0) (x : MemRef) :
    encode (mrgInstr op x) = encodeMrg op x ∧ (mrgInstr op x).wf = true := by
  rcases op_cases h with rfl | rfl | rfl | rfl | rfl | rfl | rfl | rfl | rfl | rfl | rfl | rfl | rfl | rfl <;>
    exact ⟨rfl, rfl⟩

/-! ## Decoding an encoding -/

section
open Sys2Proof.Machine

theorem decode_of_srgInstr {w : SrgWord} {i : Instr} (h : srgInstr w = i) : decode (encodeSrg w) = .ok i :=
  h ▸ decode_encodeSrg w

theorem decode_of_asgInstr {w : AsgWord} {i : Instr} (h : asgInstr w = i) : decode (encodeAsg w) = .ok i :=
  h ▸ decode_encodeAsg w

theorem decode_of_iogInstr {r f : Bool} {sub : BitVec 3} {sc : SelectCode} {i : Instr} (h : iogInstr r f sub sc = i) :
    decode (encodeIog r f sub sc) = .ok i := h ▸ decode_encodeIog r f sub sc

theorem decode_of_mrgInstr {op : BitVec 4} {x : MemRef} {i : Instr} (hop : op.extractLsb' 1 3 ≠ 0)
    (h : mrgInstr op x = i) : decode (encodeMrg op x) = .ok i := h ▸ decode_encodeMrg hop x

/-- Settles O2: the word of each format decodes to the instruction of its fields, which is the term encoded; the terms
with a condition on an argument are those of `Instr.wf`. -/
theorem decodeAfterEncode : Obligations.DecodeAfterEncode := by
  intro i wf
  cases i with
  | nop
  | als1 | bls1 | ars1 | brs1 | ral1 | rbl1 | rar1 | rbr1 | alr1 | blr1 | era1 | erb1 | ela1 | elb1 | alf1 | blf1
  | eraDisabled1 | erbDisabled1 | elaDisabled1 | elbDisabled1 => exact decode_of_srgInstr rfl
  | noEffectSrg r c1 c2 =>
    simp only [Instr.wf, Bool.and_eq_true, Bool.not_eq_true'] at wf
    obtain ⟨⟨h1, h2⟩, not_nop⟩ := wf
    exact decode_of_srgInstr ((srgInstr_idle h1 h2 r).trans (if_neg (by simp [not_nop])))
  | cleSrg r c1 sl s2 => exact decode_of_srgInstr (srgInstr_fromCle wf r sl s2)
  | slaSrg c1 s2 => exact decode_of_srgInstr (srgInstr_fromSl_A wf s2)
  | slbSrg c1 s2 => exact decode_of_srgInstr (srgInstr_fromSl_B wf s2)
  | als2 | ars2 | ral2 | rar2 | alr2 | era2 | ela2 | alf2 => exact decode_of_srgInstr (srgInstr_second wf .A _)
  | bls2 | brs2 | rbl2 | rbr2 | blr2 | erb2 | elb2 | blf2 => exact decode_of_srgInstr (srgInstr_second wf .B _)
  | eraDisabled2 => exact decode_of_srgInstr (srgInstr_eraDisabled2 wf)
  | erbDisabled2 => exact decode_of_srgInstr (srgInstr_erbDisabled2 wf)
  | elaDisabled2 => exact decode_of_srgInstr (srgInstr_elaDisabled2 wf)
  | elbDisabled2 => exact decode_of_srgInstr (srgInstr_elbDisabled2 wf)
  | noEffectAsg | cla | clb | cma | cmb | cca | ccb | sez | cleAsg | cme | cce | ssa | ssb | slaAsg | slbAsg | ina | inb
  | sza | szb | rss => exact decode_of_asgInstr rfl
  | stf sc => exact decode_of_iogInstr (iogInstr_flag (notOverflow_iff.mp wf) false false)
  | clf sc => exact decode_of_iogInstr (iogInstr_flag (notOverflow_iff.mp wf) false true)
  | sfc f sc => exact decode_of_iogInstr (iogInstr_sfc (notOverflow_iff.mp wf) false f)
  | sfs f sc => exact decode_of_iogInstr (iogInstr_sfs (notOverflow_iff.mp wf) false f)
  | hlt | mia | mib | lia | lib | ota | otb | stc | clc | sto | clo | sos | soc => exact decode_of_iogInstr rfl
  | and | jsb | xor | jmp | ior | isz | ada | adb | cpa | cpb | lda | ldb | sta | stb =>
    exact decode_of_mrgInstr (by decide) rfl

end

/-! ## Encoding what was decoded -/

/-- The mask 173777 clears bit 11 of an input/output word and leaves its other bits. -/
theorem encodeIog_and_mask (r f : Bool) (sub : BitVec 3) (sc : SelectCode) :
    encodeIog r f sub sc &&& 0o173777 = encodeIog false f sub sc := by
  have mask : (0o173777 : Word) = 15#4 ++ 0#1 ++ 1#1 ++ 1#1 ++ 7#3 ++ 63#6 := by decide
  have ones1 (b : BitVec 1) : b &&& 1#1 = b := by revert b; decide
  have ones3 (v : BitVec 3) : v &&& 7#3 = v := by revert v; decide
  have ones6 (v : BitVec 6) : v &&& 63#6 = v := by revert v; decide
  rw [mask]
  show (8#4 ++ ofFlag r ++ 1#1 ++ ofFlag f ++ sub ++ sc) &&& (15#4 ++ 0#1 ++ 1#1 ++ 1#1 ++ 7#3 ++ 63#6) = _
  iterate 5 rw [BitVec.and_append]
  rw [ones1, ones1, ones3, ones6, BitVec.and_zero]
  rfl

/-- Settles O3: the instruction of a word's fields has the word they make up again, bit 11 apart where it is not
read. -/
theorem encodeAfterDecode : Obligations.EncodeAfterDecode := by
  intro w i hi
  rcases decode_cases w with ⟨op, h⟩ | ⟨group, bit10, h⟩ | ⟨group, bit10, h⟩ | ⟨group, bit10, h⟩ | ⟨-, -, h⟩
  · obtain rfl := Except.ok.inj (h.symm.trans hi)
    have op' : (field w 11 4).extractLsb' 1 3 ≠ 0 := by rwa [field_12_3]
    obtain ⟨word, wf⟩ := mrgInstr_spec op' (memRef w)
    exact ⟨wf, .inl (word.trans (encodeMrg_mrgFields w))⟩
  · obtain rfl := Except.ok.inj (h.symm.trans hi)
    exact ⟨srgInstr_wf _, .inl ((encode_srgInstr _).trans (encodeSrg_srgFields group bit10))⟩
  · obtain rfl := Except.ok.inj (h.symm.trans hi)
    obtain ⟨word, wf⟩ := asgInstr_spec (asgFields w)
    exact ⟨wf, .inl (word.trans (encodeAsg_asgFields group bit10))⟩
  · obtain rfl := Except.ok.inj (h.symm.trans hi)
    obtain ⟨word, wf⟩ := iogInstr_spec (bit w 11) (bit w 9) (field w 6 3) (field w 0 6)
    refine ⟨wf, ?_⟩
    have whole := encodeIog_iogFields group bit10
    by_cases reads : 4 ≤ (field w 6 3).toNat
    · exact .inl (by rw [word, decide_eq_true reads, Bool.and_true, whole])
    · refine .inr ⟨?_, ?_, ?_⟩
      · have h4 : (field w 12 4).toNat = 8 := by rw [group]; rfl
        rw [field_toNat] at h4
        omega
      · rw [field_toNat] at reads
        omega
      · rw [word, decide_eq_false reads, Bool.and_false, ← encodeIog_and_mask (bit w 11), whole]
  · rw [h] at hi; cases hi

/-- A bit of a word, by division. -/
theorem bit_eq_true_iff (w : Word) (i : Nat) : bit w i = true ↔ w.toNat / 2 ^ i % 2 = 1 := by
  simp [bit, BitVec.getLsbD, Nat.testBit_eq_decide_div_mod_eq]

/-- Settles O4: of the five answers of the decoder only one is the rejection, and its bits are these. -/
theorem unlistedWordsExactly : Obligations.UnlistedWordsExactly := by
  intro w
  have top : (field w 12 4).toNat = w.toNat / 4096 := by
    rw [field_toNat]
    omega
  have bit10_iff := bit_eq_true_iff w 10
  constructor
  · intro rejected
    rcases decode_cases w with ⟨-, h⟩ | ⟨-, -, h⟩ | ⟨-, -, h⟩ | ⟨-, -, h⟩ | ⟨group, bit10, -⟩
    iterate 4 rw [h] at rejected; cases rejected
    rw [← top, group]
    rw [bit10] at bit10_iff
    exact ⟨rfl, by simpa using bit10_iff⟩
  · rintro ⟨group, bit10⟩
    have group8 : field w 12 4 = 8#4 := BitVec.eq_of_toNat_eq (top.trans group)
    have bit10_false : bit w 10 = false := by
      rw [← Bool.not_eq_true, bit10_iff]
      omega
    rcases decode_cases w with ⟨op, -⟩ | ⟨group0, -⟩ | ⟨group0, -⟩ | ⟨-, bit10_true, -⟩ | ⟨-, -, h⟩
    · refine absurd (BitVec.eq_of_toNat_eq ?_) op
      rw [field_toNat]
      simp only [BitVec.ofNat_eq_ofNat, BitVec.toNat_ofNat]
      omega
    · exact absurd (group8.symm.trans group0) (by decide)
    · exact absurd (group8.symm.trans group0) (by decide)
    · rw [bit10_false] at bit10_true; cases bit10_true
    · exact h

/-- Settles O1: each written word is decoded by evaluation of its fields. -/
theorem writtenWordsDecode : Obligations.WrittenWordsDecode := by
  unfold Obligations.WrittenWordsDecode
  decide

end Sys2Proof
end

section
/-! PROOFS. The Shift-Rotate Group: the bit-level shifts are the masks and rotates of the statements, and so every word
leaves the state of R110. -/

namespace Sys2Proof.Machine

open Sys2Proof.Statement

/-! ## The shifts by masks and rotates -/

/-- The shift of R111 by fields is the shift of whole words by masks and rotates: the sixteen bits agree, code by
code. -/
theorem shiftValue_fst (c : ShiftCode) (t : Word) (e : Bool) : (shiftValue c t e).1 = shiftByMask c t e := by
  apply BitVec.eq_of_getLsbD_eq
  intro i hi
  cases c <;> simp only [shiftValue, shiftByMask, BitVec.getLsbD_append, BitVec.getLsbD_extractLsb']
  case er => cases e <;> interval_cases i <;> simp
  case el => cases e <;> interval_cases i <;> simp
  all_goals interval_cases i <;> simp

theorem shiftValue_snd (c : ShiftCode) (t : Word) (e : Bool) : (shiftValue c t e).2 = slotE c t e := by
  cases c <;> rfl

/-- A shift position gives the register value and the E of the statements. -/
theorem runSlot_eq (p : Slot) (t : Word) (e : Bool) : runSlot p t e = (slotValue p t e, slotE p.code t e) := by
  simp only [runSlot, slotValue, shiftValue_fst, shiftValue_snd]

/-- A shift-rotate word leaves the state of R110. -/
theorem runShiftRotate_eq_afterSrg (r : Reg) (s1 s2 : Slot) (cle sl : Bool) (s : State) :
    runShiftRotate ⟨r, s1, cle, sl, s2⟩ s = .next (afterSrg s r s1 cle sl s2) := by
  have clear (b : Bool) : (if cle = true then false else b) = (b && !cle) := by cases cle <;> simp
  simp only [runShiftRotate, runSlot_eq, clear, skipIf_eq]
  cases r <;> simp [afterSrg, State.setReg, State.setE, State.setP]

/-! ## The words by their first micro-instruction -/

/-- A first position that does nothing leaves what an empty one does (R91). -/
theorem afterSrg_idle_first {c1 : ShiftCode} (h1 : c1.idle = true) (r : Reg) (cle sl : Bool) (s2 : Slot) (s : State) :
    afterSrg s r ⟨false, c1⟩ cle sl s2 = afterSrg s r noSlot cle sl s2 := by
  cases c1 <;> cases h1 <;> rfl

/-- The same of a whole word: a code in a first position that does nothing does not matter. -/
theorem runShiftRotate_idle_first {c1 : ShiftCode} (h1 : c1.idle = true) (r : Reg) (cle sl : Bool) (s2 : Slot)
    (s : State) : runShiftRotate ⟨r, ⟨false, c1⟩, cle, sl, s2⟩ s = .next (afterSrg s r noSlot cle sl s2) := by
  rw [runShiftRotate_eq_afterSrg, afterSrg_idle_first h1]

/-- Settles O21: the words of both groups that select nothing write back what they read. -/
theorem emptyWordsChangeNothing : Obligations.EmptyWordsChangeNothing := by
  intro s r c1 c2
  refine ⟨fun h1 h2 => runShiftRotate_idle h1 h2 r s, ?_⟩
  have written_back : (s.setReg r (s.reg r)).setE s.e = s := by rw [State.setReg_reg_self, State.setE_e_self]
  exact congrArg Host.Outcome.next written_back

/-- Settles O22: each is the shift-rotate word with its code in the first position, enabled or not. -/
theorem firstPositionWords : Obligations.FirstPositionWords := by
  intro s cle sl s2
  have on (r : Reg) (c : ShiftCode) := runShiftRotate_eq_afterSrg r ⟨true, c⟩ s2 cle sl s
  have off (r : Reg) (c : ShiftCode) := runShiftRotate_eq_afterSrg r ⟨false, c⟩ s2 cle sl s
  exact ⟨on .A .ls, on .B .ls, on .A .rs, on .B .rs, on .A .rl, on .B .rl, on .A .rr, on .B .rr, on .A .lr, on .B .lr,
    on .A .er, on .B .er, on .A .el, on .B .el, on .A .lf, on .B .lf, off .A .er, off .B .er, off .A .el, off .B .el⟩

/-- Settles O23: each is the shift-rotate word with its code in the second position and nothing else. -/
theorem secondPositionWords : Obligations.SecondPositionWords := by
  intro s c1 h1
  have on (r : Reg) (c : ShiftCode) := runShiftRotate_idle_first h1 r false false ⟨true, c⟩ s
  have off (r : Reg) (c : ShiftCode) := runShiftRotate_idle_first h1 r false false ⟨false, c⟩ s
  exact ⟨on .A .ls, on .B .ls, on .A .rs, on .B .rs, on .A .rl, on .B .rl, on .A .rr, on .B .rr, on .A .lr, on .B .lr,
    on .A .er, on .B .er, on .A .el, on .B .el, on .A .lf, on .B .lf, off .A .er, off .B .er, off .A .el, off .B .el⟩

/-- Settles O24: the first position does nothing, and CLE or SLr come next. -/
theorem clearAndSkipWords : Obligations.ClearAndSkipWords := by
  intro s r c1 sl s2 h1
  exact ⟨runShiftRotate_idle_first h1 r true sl s2 s, runShiftRotate_idle_first h1 .A false true s2 s,
    runShiftRotate_idle_first h1 .B false true s2 s⟩

/-! ## One shift alone in its word -/

/-- A word with one enabled shift and nothing else writes its register and E. -/
theorem runShiftRotate_alone (r : Reg) (c : ShiftCode) (s : State) :
    runShiftRotate (SrgWord.first r c false false noSlot) s =
      .next ((s.setReg r (shiftValue c (s.reg r) s.e).1).setE (shiftValue c (s.reg r) s.e).2) := rfl

/-- ARS is the arithmetic shift right. -/
theorem shiftByMask_rs (t : Word) (e : Bool) : shiftByMask .rs t e = t.sshiftRight 1 := by
  apply BitVec.eq_of_getLsbD_eq
  intro i hi
  simp only [shiftByMask, BitVec.getLsbD_sshiftRight, BitVec.msb_eq_getLsbD_last]
  interval_cases i <;> simp

/-- Where bits 15 and 14 agree, ALS is the logical shift left. -/
theorem shiftByMask_ls {t : Word} (agree : t.getLsbD 15 = t.getLsbD 14) (e : Bool) :
    shiftByMask .ls t e = t <<< 1 := by
  apply BitVec.eq_of_getLsbD_eq
  intro i hi
  simp only [shiftByMask]
  interval_cases i <;> simp at agree ⊢
  exact agree

/-- Doubling a value whose two high bits agree stays within 16 bits. -/
theorem toInt_shiftLeft_one {t : Word} (agree : t.getLsbD 15 = t.getLsbD 14) : (t <<< 1).toInt = 2 * t.toInt := by
  have bits : decide (t.toNat / 2 ^ 15 % 2 = 1) = decide (t.toNat / 2 ^ 14 % 2 = 1) := by
    simpa [BitVec.getLsbD, Nat.testBit_eq_decide_div_mod_eq] using agree
  rw [decide_eq_decide] at bits
  rw [BitVec.toInt_eq_toNat_cond, BitVec.toInt_eq_toNat_cond, BitVec.toNat_shiftLeft, Nat.shiftLeft_eq]
  omega

/-- ALR keeps bits 13:0, one position up. -/
theorem toNat_shiftValue_lr (t : Word) (e : Bool) : (shiftValue .lr t e).1.toNat = t.toNat % 2 ^ 14 * 2 := by
  simp only [shiftValue, BitVec.toNat_append, BitVec.extractLsb'_toNat]
  simp [Nat.shiftLeft_eq]

/-- Settles O25: ARS and ALS are the shifts of a signed value, and ALR leaves at most 077776. -/
theorem shiftArithmetic : Obligations.ShiftArithmetic := by
  intro s
  refine ⟨_, _, _, runShiftRotate_alone .A .rs s, ?_, runShiftRotate_alone .A .ls s, fun agree => ?_,
    runShiftRotate_alone .A .lr s, ?_, toNat_shiftValue_lr s.a s.e⟩
  · show (shiftValue .rs s.a s.e).1.toInt = s.a.toInt / 2
    rw [shiftValue_fst, shiftByMask_rs, BitVec.toInt_sshiftRight, Int.shiftRight_eq_div_pow]
    rfl
  · show (shiftValue .ls s.a s.e).1.toInt = 2 * s.a.toInt
    rw [shiftValue_fst, shiftByMask_ls agree, toInt_shiftLeft_one agree]
  · show 0 ≤ (shiftValue .lr s.a s.e).1.toInt
    have value := toNat_shiftValue_lr s.a s.e
    rw [BitVec.toInt_eq_toNat_cond]
    omega

/-! ## Rotates -/

/-- A rotate left is undone by a rotate right: the bit that left at one end comes back there. -/
theorem shiftValue_rr_rl (t : Word) (e : Bool) : shiftValue .rr (shiftValue .rl t e).1 e = (t, e) := by
  simp only [shiftValue]
  rw [extract_append_low _ _ (by decide), extract_append_high _ _ (by decide), extract_all, extract_all]
  exact congrArg (·, e) ((field_append t (by rfl)).trans (extract_all t))

/-- The 17 bits of E and a register, as ERr and ELr see them (R120, R121). -/
def linked (t : Word) (e : Bool) : BitVec 17 := BitVec.ofBool e ++ t

theorem getLsbD_linked (t : Word) (e : Bool) (i : Nat) :
    (linked t e).getLsbD i = if i < 16 then t.getLsbD i else decide (i = 16) && e := by
  have top : ¬ i < 16 → (i - 16 = 0 ↔ i = 16) := by omega
  simp only [linked, BitVec.getLsbD_append, BitVec.getLsbD_ofBool]
  split
  · rfl
  · rename_i high; simp [top high]

/-- The 17 bits hold the register and E. -/
theorem linked_inj {t u : Word} {e d : Bool} (h : linked t e = linked u d) : t = u ∧ e = d := by
  have bits (i : Nat) : (linked t e).getLsbD i = (linked u d).getLsbD i := by rw [h]
  simp only [getLsbD_linked] at bits
  refine ⟨BitVec.eq_of_getLsbD_eq fun i hi => ?_, by simpa using bits 16⟩
  simpa [hi] using bits i

/-- ERr rotates the 17 bits right by one. -/
theorem linked_er (t : Word) (e : Bool) :
    linked (shiftValue .er t e).1 (shiftValue .er t e).2 = (linked t e).rotateRight 1 := by
  apply BitVec.eq_of_getLsbD_eq
  intro i hi
  simp only [BitVec.getLsbD_rotateRight, getLsbD_linked, shiftValue, BitVec.getLsbD_append,
    BitVec.getLsbD_extractLsb', BitVec.getLsbD_ofBool]
  interval_cases i <;> simp

/-- ELr undoes ERr. -/
theorem shiftValue_el_er (t : Word) (e : Bool) :
    shiftValue .el (shiftValue .er t e).1 (shiftValue .er t e).2 = (t, e) := by
  have low : BitVec.ofBool (t.getLsbD 0) = t.extractLsb' 0 1 := ofFlag_bit t 0
  have high : (BitVec.ofBool e ++ t.extractLsb' 1 15).getLsbD 15 = e := by simp only [BitVec.getLsbD_append]; simp
  simp only [shiftValue, high, low]
  rw [extract_append_low _ _ (by decide), extract_all]
  exact congrArg (·, e) ((field_append t (by rfl)).trans (extract_all t))

/-- A map that moves every bit by the same distance round a ring of `n` bits comes round after `n` times. -/
theorem iterate_ring {n : Nat} {f : BitVec n → BitVec n} {k : Nat}
    (h : ∀ v i, i < n → (f v).getLsbD i = v.getLsbD ((i + k) % n)) (v : BitVec n) : f^[n] v = v := by
  have moved (m : Nat) : ∀ v i, i < n → (f^[m] v).getLsbD i = v.getLsbD ((i + m * k) % n) := by
    induction m with
    | zero => intro v i hi; simp [Nat.mod_eq_of_lt hi]
    | succ m ih =>
      intro v i hi
      rw [Function.iterate_succ_apply, ih _ _ hi, h _ _ (Nat.mod_lt _ (by omega)), Nat.mod_add_mod]
      congr 2
      ring
  apply BitVec.eq_of_getLsbD_eq
  intro i hi
  rw [moved n v i hi, Nat.add_mul_mod_self_left, Nat.mod_eq_of_lt hi]

/-- Repeating RAL rotates A. -/
theorem repeatExec_ral (n : Nat) (s : State) :
    repeatExec (.ral1 false false noSlot) n s = .next (s.setReg .A ((·.rotateLeft 1)^[n] s.a)) := by
  induction n generalizing s with
  | zero => rfl
  | succ n ih =>
    have one : exec (.ral1 false false noSlot) s = .next (s.setReg .A (s.a.rotateLeft 1)) :=
      (runShiftRotate_alone .A .rl s).trans (by rw [shiftValue_fst]; rfl)
    rw [repeatExec, one, andThen_next, ih]
    rfl

/-- Repeating ERA rotates the 17 bits of A and E. -/
theorem repeatExec_era (n : Nat) (s : State) :
    ∃ t e, repeatExec (.era1 false false noSlot) n s = .next ((s.setReg .A t).setE e) ∧
      linked t e = (·.rotateRight 1)^[n] (linked s.a s.e) := by
  induction n generalizing s with
  | zero => exact ⟨s.a, s.e, rfl, rfl⟩
  | succ n ih =>
    obtain ⟨t, e, run, bits⟩ :=
      ih ((s.setReg .A (shiftValue .er s.a s.e).1).setE (shiftValue .er s.a s.e).2)
    refine ⟨t, e, ?_, ?_⟩
    · have one : exec (.era1 false false noSlot) s = _ := runShiftRotate_alone .A .er s
      rw [repeatExec, one]
      exact run
    · rw [bits, Function.iterate_succ_apply, ← linked_er]
      rfl

/-- Two words with one enabled shift each shift twice. -/
theorem runShiftRotate_alone_twice (r : Reg) (c c' : ShiftCode) {s : State} {t : Word} {e : Bool}
    (back : shiftValue c' (shiftValue c (s.reg r) s.e).1 (shiftValue c (s.reg r) s.e).2 = (t, e)) :
    andThen (runShiftRotate (SrgWord.first r c false false noSlot) s)
      (runShiftRotate (SrgWord.first r c' false false noSlot)) = .next ((s.setReg r t).setE e) := by
  have twice : andThen (runShiftRotate (SrgWord.first r c false false noSlot) s)
      (runShiftRotate (SrgWord.first r c' false false noSlot)) =
      .next ((s.setReg r (shiftValue c' (shiftValue c (s.reg r) s.e).1 (shiftValue c (s.reg r) s.e).2).1).setE
        (shiftValue c' (shiftValue c (s.reg r) s.e).1 (shiftValue c (s.reg r) s.e).2).2) := by
    cases r <;> rfl
  rw [twice, back]

/-- Settles O26: each rotate is undone by its inverse, and 16 or 17 equal moves go once round the ring. -/
theorem rotatesComeRound : Obligations.RotatesComeRound := by
  intro s
  refine ⟨?_, ?_, ?_, ?_⟩
  · exact runShiftRotate_alone_twice .A .rl .rr (shiftValue_rr_rl s.a s.e)
  · exact runShiftRotate_alone_twice .A .er .el (shiftValue_el_er s.a s.e)
  · have round : (·.rotateLeft 1)^[16] s.a = s.a := by
      refine iterate_ring (k := 15) (fun v i hi => ?_) s.a
      rw [BitVec.getLsbD_rotateLeft]
      interval_cases i <;> simp
    rw [repeatExec_ral, round]
    rfl
  · obtain ⟨t, e, run, bits⟩ := repeatExec_era 17 s
    have round : (·.rotateRight 1)^[17] (linked s.a s.e) = linked s.a s.e := by
      refine iterate_ring (k := 1) (fun v i hi => ?_) _
      rw [BitVec.getLsbD_rotateRight]
      interval_cases i <;> simp
    obtain ⟨rfl, rfl⟩ := linked_inj (bits.trans round)
    exact run

end Sys2Proof.Machine
end

section
/-! PROOFS. E and O after an addition, and the Alter-Skip Group: every word leaves the state of R140. -/

namespace Sys2Proof.Machine

open Sys2Proof.Statement

/-! ## Bits 15 and 0 of a word, and the flags of an addition -/

/-- Bit 15 is the sign. -/
theorem bit15_eq (t : Word) : t.getLsbD 15 = decide (t.toInt < 0) := by
  have h : t.getLsbD 15 = decide (t.toNat / 2 ^ 15 % 2 = 1) := by
    simp [BitVec.getLsbD, Nat.testBit_eq_decide_div_mod_eq]
  rw [h, BitVec.toInt_eq_toNat_cond, decide_eq_decide]
  omega

/-- Bit 0 is the parity. -/
theorem bit0_eq (t : Word) : t.getLsbD 0 = decide (t.toNat % 2 = 1) := by
  simp [BitVec.getLsbD, Nat.testBit_eq_decide_div_mod_eq]

/-- The carry out of bit 15 (R213). -/
theorem carryOut_eq (x y : Word) : carryOut x y = decide (65536 ≤ x.toNat + y.toNat) := by
  have sum : (x.setWidth 17 + y.setWidth 17).toNat = x.toNat + y.toNat := by
    rw [BitVec.toNat_add, BitVec.toNat_setWidth, BitVec.toNat_setWidth]
    omega
  rw [carryOut, BitVec.getLsbD, sum, Nat.testBit_eq_decide_div_mod_eq, decide_eq_decide]
  omega

/-- Signed overflow: the sum of the signed values does not fit in 16 bits (R213). -/
theorem signedOverflow_eq (x y : Word) :
    signedOverflow x y = decide (x.toInt + y.toInt < -32768 ∨ 32767 < x.toInt + y.toInt) := by
  rw [signedOverflow, bit15_eq, bit15_eq, bit15_eq, Bool.eq_iff_iff]
  simp only [BitVec.toInt_eq_toNat_cond, BitVec.toNat_add, Bool.and_eq_true, beq_iff_eq, bne_iff_ne, decide_eq_decide,
    decide_eq_true_eq, ne_eq]
  omega

/-- Adding one carries out of all ones only. -/
theorem carryOut_one (t : Word) : carryOut t 1 = decide (t = 0o177777) := by
  rw [carryOut_eq, decide_eq_decide, ← BitVec.toNat_inj]
  simp only [BitVec.ofNat_eq_ofNat, BitVec.toNat_ofNat]
  omega

/-- Adding one overflows from the largest signed value only. -/
theorem signedOverflow_one (t : Word) : signedOverflow t 1 = decide (t = 0o077777) := by
  rw [signedOverflow_eq, decide_eq_decide, ← BitVec.toNat_inj]
  simp only [BitVec.toInt_eq_toNat_cond, BitVec.ofNat_eq_ofNat, BitVec.toNat_ofNat]
  omega

/-! ## The parts of an alter-skip word -/

theorem alterWord_eq (op : AlterOp) (t : Word) : alterWord op t = altered op t := by
  cases op with
  | complement => exact (BitVec.allOnes_sub_eq_not t).symm
  | none | clear | clearComplement => rfl

theorem alterBit_eq (op : AlterOp) (e : Bool) : alterBit op e = alteredE op e := by cases op <;> rfl

/-- The skip decision is the skip of R141 and R142. -/
theorem skipDecision_iff (w : AsgWord) (e : Bool) (t u : Word) :
    skipDecision w e t u = true ↔ alterSkips w e t u := by
  have even : ¬ t.toNat % 2 = 1 ↔ t.toNat % 2 = 0 := by omega
  unfold skipDecision alterSkips
  rw [bit15_eq, bit0_eq]
  cases w.rss with
  | false => simp [or_assoc]
  | true =>
    by_cases alone : w.sez = false ∧ w.ss = false ∧ w.sl = false ∧ w.sz = false
    · simp [alone]
    · have selected : ¬ (!w.sez && !w.ss && !w.sl && !w.sz) = true := by simpa [and_assoc] using alone
      by_cases pair : w.ss = true ∧ w.sl = true
      · simp [pair, or_assoc]
      · have not_pair : ¬ (w.ss && w.sl) = true := by simpa using pair
        simp only [if_true, if_neg selected, if_neg not_pair, if_neg alone, if_neg pair, Bool.true_eq_false, if_false]
        simp [or_assoc]

/-- INr, where it is selected: the register, and the flags it may set and never clears (R153, D10). -/
theorem increment_eq (inc : Bool) (r : Reg) (s : State) :
    (if inc then addToReg r 1 s else s) =
      ((s.setReg r (if inc then s.reg r + 1 else s.reg r)).setE
        (if inc = true ∧ s.reg r = 0o177777 then true else s.e)).setO
        (if inc = true ∧ s.reg r = 0o077777 then true else s.o) := by
  have set_or (b c : Bool) : (if c = true then true else b) = (b || c) := by cases b <;> cases c <;> rfl
  cases inc with
  | false => simp [State.setO]
  | true =>
    simp only [if_true, true_and, addToReg, carryOut_one, signedOverflow_one, State.setSticky]
    rw [← set_or, ← set_or]
    simp

/-- A choice by a condition, from an equivalent one. -/
theorem ite_spec {a b : Prop} [Decidable a] {x y : Addr} (h : a ↔ b) :
    (b → (if a then x else y) = x) ∧ (¬ b → (if a then x else y) = y) :=
  ⟨fun hb => if_pos (h.mpr hb), fun hb => if_neg fun ha => hb (h.mp ha)⟩

/-- An instruction that runs as an alter-skip word leaves the state of R140. -/
theorem runsAsAsg_of_exec {i : Instr} {w : AsgWord} (h : ∀ s, exec i s = runAlterSkip w s) : runsAsAsg i w := by
  intro s
  refine ⟨_, ite_spec (skipDecision_iff w s.e _ _), ?_⟩
  obtain ⟨r, rop, sez, eop, ss, sl, inc, sz, rss⟩ := w
  rw [h, runAlterSkip]
  simp only [increment_eq, skipIf_eq, alterWord_eq, alterBit_eq]
  cases r <;> rfl

/-- Settles O27: each is the alter-skip word of its fields. -/
theorem alterSkipWords : Obligations.AlterSkipWords := by
  intro r sez ss sl inc sz rss eop
  refine ⟨?_, ?_, ?_, ?_, ?_, ?_, ?_, ?_, ?_, ?_, ?_, ?_, ?_, ?_, ?_, ?_, ?_, ?_, ?_⟩ <;>
    exact runsAsAsg_of_exec fun _ => rfl

/-! ## What CLr, CMr, CCr and INr compute -/

/-- What an alter-skip word computes: the register, E and O of R140; the other register stays. -/
theorem exec_asg {i : Instr} {w : AsgWord} (h : ∀ s, exec i s = runAlterSkip w s) (s : State) :
    ∃ t, exec i s = .next t ∧
      t.reg w.r = (if w.inc then altered w.rop (s.reg w.r) + 1 else altered w.rop (s.reg w.r)) ∧
      (∀ r, r ≠ w.r → t.reg r = s.reg r) ∧
      t.e = (if w.inc = true ∧ altered w.rop (s.reg w.r) = 0o177777 then true else alteredE w.eop s.e) ∧
      t.o = (if w.inc = true ∧ altered w.rop (s.reg w.r) = 0o077777 then true else s.o) := by
  obtain ⟨p', -, run⟩ := runsAsAsg_of_exec h s
  obtain ⟨r, rop, sez, eop, ss, sl, inc, sz, rss⟩ := w
  cases r with
  | A => exact ⟨_, run, rfl, fun r other => by cases r <;> [exact absurd rfl other; rfl], rfl, rfl⟩
  | B => exact ⟨_, run, rfl, fun r other => by cases r <;> [rfl; exact absurd rfl other], rfl, rfl⟩

/-- The one's complement, as a number. -/
theorem toNat_complement (t : Word) : (altered .complement t).toNat = 65535 - t.toNat := by
  simp only [altered]
  bv_omega

/-- Settles O28: without INr the register is column 1 of R95. -/
theorem clearComplementValues : Obligations.ClearComplementValues := by
  intro s sez ss sl sz rss eop
  have word (i : Instr) (r : Reg) (rop : AlterOp)
      (h : ∀ s, exec i s = runAlterSkip ⟨r, rop, sez, eop, ss, sl, false, sz, rss⟩ s) := exec_asg h s
  refine ⟨?_, ?_, ?_, ?_, ?_, ?_⟩
  · obtain ⟨t, run, value, other, -, o⟩ := word (.cla sez eop ss sl false sz rss) .A .clear fun _ => rfl
    exact ⟨t, run, value, other .B nofun, o.trans (by simp)⟩
  · obtain ⟨t, run, value, other, -, o⟩ := word (.clb sez eop ss sl false sz rss) .B .clear fun _ => rfl
    exact ⟨t, run, value, other .A nofun, o.trans (by simp)⟩
  · obtain ⟨t, run, value, other, -, o⟩ := word (.cma sez eop ss sl false sz rss) .A .complement fun _ => rfl
    exact ⟨t, run, (congrArg BitVec.toNat value).trans (toNat_complement s.a), other .B nofun, o.trans (by simp)⟩
  · obtain ⟨t, run, value, other, -, o⟩ := word (.cmb sez eop ss sl false sz rss) .B .complement fun _ => rfl
    exact ⟨t, run, (congrArg BitVec.toNat value).trans (toNat_complement s.b), other .A nofun, o.trans (by simp)⟩
  · obtain ⟨t, run, value, other, -, o⟩ := word (.cca sez eop ss sl false sz rss) .A .clearComplement fun _ => rfl
    exact ⟨t, run, congrArg BitVec.toInt value, other .B nofun, o.trans (by simp)⟩
  · obtain ⟨t, run, value, other, -, o⟩ := word (.ccb sez eop ss sl false sz rss) .B .clearComplement fun _ => rfl
    exact ⟨t, run, congrArg BitVec.toInt value, other .A nofun, o.trans (by simp)⟩

/-- Complement and increment is negation (R156). -/
theorem complement_add_one (t : Word) : altered .complement t + 1 = -t := by
  simp only [altered]
  bv_omega

/-- The complement of a negation is one less (R156). -/
theorem complement_neg (t : Word) : altered .complement (-t) = t - 1 := by
  simp only [altered]
  bv_omega

/-- `CMr,INr` sets E at zero and O at the most negative value, which is its own negation (R156). -/
theorem complement_eq_ones_iff (t : Word) : altered .complement t = 0o177777 ↔ t = 0 := by
  simp only [altered]
  bv_omega

theorem complement_eq_largest_iff (t : Word) : altered .complement t = 0o077777 ↔ t = 0o100000 := by
  simp only [altered]
  bv_omega

/-- `CMr,INr` then `CMr`, for either register (R156). -/
theorem negate_then_complement {i j : Instr} {r : Reg}
    (hi : ∀ s, exec i s = runAlterSkip ⟨r, .complement, false, .none, false, false, true, false, false⟩ s)
    (hj : ∀ s, exec j s = runAlterSkip ⟨r, .complement, false, .none, false, false, false, false, false⟩ s) (s : State) :
    ∃ t u, exec i s = .next t ∧ t.reg r = -s.reg r ∧ exec j t = .next u ∧ u.reg r = s.reg r - 1 ∧
      (t.e = true ↔ s.e = true ∨ s.reg r = 0) ∧ (t.o = true ↔ s.o = true ∨ s.reg r = 0o100000) := by
  have set_or {c : Prop} [Decidable c] (b : Bool) : (if c then true else b) = true ↔ b = true ∨ c := by
    by_cases c <;> simp_all
  obtain ⟨t, first, negated, -, e, o⟩ := exec_asg hi s
  obtain ⟨u, second, decremented, -⟩ := exec_asg hj t
  simp only [if_true, true_and, alteredE, complement_add_one, complement_eq_ones_iff, complement_eq_largest_iff]
    at negated e o
  refine ⟨t, u, first, negated, second, ?_, by rw [e, set_or], by rw [o, set_or]⟩
  rw [← complement_neg, ← negated]
  exact decremented

/-- Settles O29: the two sequences are the one of `negate_then_complement`, on A and on B. -/
theorem negateAndDecrement : Obligations.NegateAndDecrement := fun s =>
  ⟨negate_then_complement (r := .A) (fun _ => rfl) (fun _ => rfl) s,
    negate_then_complement (r := .B) (fun _ => rfl) (fun _ => rfl) s⟩

end Sys2Proof.Machine
end

section
/-! PROOFS. The operands: the direct address, and the chain of indirect words, which ends within as many words as there
are addresses or never. -/

namespace Sys2Proof.Machine

open Sys2Proof.Statement

theorem page_toNat (a : Addr) : (page a).toNat = a.toNat / 1024 := by
  simp only [page, BitVec.extractLsb'_toNat, Nat.shiftRight_eq_div_pow]
  omega

/-- The page above, the ten bits of the word below. -/
theorem directAddr_toNat (x : MemRef) (fa : Addr) :
    (directAddr x fa).toNat = (if x.cur then page fa else 0#5).toNat * 1024 + x.m.toNat := by
  rw [directAddr, BitVec.toNat_append, ← Nat.shiftLeft_add_eq_or_of_lt x.m.isLt, Nat.shiftLeft_eq]

/-- Settles O30. -/
theorem directAddressPage : Obligations.DirectAddressPage := by
  intro x fa
  rw [directAddr_toNat]
  refine ⟨fun zero => by simp [zero], fun current => ?_⟩
  rw [if_pos current, page_toNat]

/-! ## The chain of indirect words -/

section
variable {s : State} {a b : Addr}

/-- One more word at the end of the chain. -/
theorem chainAddr_succ (n : Nat) : chainAddr s a (n + 1) = (chainAddr s a n).bind (chainAddr s · 1) := by
  rw [chainAddr]
  cases chainAddr s a n <;> rfl

/-- The chain from the address reached at a level. -/
theorem chainAddr_add (m n : Nat) : chainAddr s a (m + n) = (chainAddr s a m).bind (chainAddr s · n) := by
  induction n with
  | zero => cases chainAddr s a m <;> simp [chainAddr]
  | succ n ih =>
    rw [← Nat.add_assoc, chainAddr_succ, ih, Option.bind_assoc]
    exact congrArg _ (funext fun b => (chainAddr_succ n).symm)

theorem chainAddr_add_of_eq {m : Nat} (h : chainAddr s a m = some b) (n : Nat) :
    chainAddr s a (m + n) = chainAddr s b n := by rw [chainAddr_add, h, Option.bind_some]

/-- A word that could be read leads on exactly where its bit 15 is set (R58). -/
theorem chainAddr_one {w : Word} (h : memRead s a = .next w) :
    chainAddr s a 1 = if w.getLsbD 15 then some (w.setWidth 15) else none := by simp [chainAddr, h]

theorem chainAddr_one_absent (h : ¬ s.hasAddr a) : chainAddr s a 1 = none := by
  simp [chainAddr, memRead_absent h]

/-- Before a level that is reached every level is. -/
theorem chainAddr_isSome_of_le {m n : Nat} (h : (chainAddr s a n).isSome = true) (hmn : m ≤ n) :
    (chainAddr s a m).isSome = true := by
  obtain ⟨k, rfl⟩ := Nat.exists_eq_add_of_le hmn
  rw [chainAddr_add] at h
  cases hm : chainAddr s a m with
  | none => simp [hm] at h
  | some b => rfl

/-- In a chain that ends at level `n` no address comes twice: from a repeated one the end would come before `n`. -/
theorem chainAddr_ne_of_end {n i j : Nat} (hn : chainAddr s a n = some b) (last : chainAddr s b 1 = none)
    (hij : i < j) (hj : j ≤ n) : chainAddr s a i ≠ chainAddr s a j := by
  intro repeated
  have early : chainAddr s a (i + (n - j)) = some b := by
    rw [chainAddr_add, repeated, ← chainAddr_add, Nat.add_sub_cancel' hj, hn]
  have beyond : chainAddr s a (i + (n - j) + 1) = none := (chainAddr_add_of_eq early 1).trans last
  have reached := chainAddr_isSome_of_le (Option.isSome_of_eq_some hn) (m := i + (n - j) + 1) (by omega)
  simp [beyond] at reached

/-- A chain that ends does so within as many words as there are addresses. -/
theorem chain_end_lt {n : Nat} (hn : chainAddr s a n = some b) (last : chainAddr s b 1 = none) : n < chainFuel := by
  have reached (i : Fin (n + 1)) : (chainAddr s a i).isSome = true :=
    chainAddr_isSome_of_le (Option.isSome_of_eq_some hn) (Nat.lt_succ_iff.mp i.isLt)
  have no_repeat : Function.Injective fun i : Fin (n + 1) => ((chainAddr s a i).get (reached i)).toFin := by
    intro i j same
    have same' : chainAddr s a i = chainAddr s a j := by
      rw [← Option.some_get (reached i), ← Option.some_get (reached j), BitVec.toFin_inj.mp same]
    rcases Nat.lt_trichotomy i j with below | equal | above
    · exact absurd same' (chainAddr_ne_of_end hn last below (Nat.lt_succ_iff.mp j.isLt))
    · exact Fin.ext equal
    · exact absurd same'.symm (chainAddr_ne_of_end hn last above (Nat.lt_succ_iff.mp i.isLt))
  have count := Fintype.card_le_of_injective _ no_repeat
  rw [Fintype.card_fin, Fintype.card_fin] at count
  exact count

/-! ## Following the chain -/

/-- A word with a further level passes the rest of the chain on. -/
theorem followChain_of_some (multi : s.cfg.indirectMultilevel = true) (h : chainAddr s a 1 = some b) (n : Nat) :
    followChain s (n + 1) a = followChain s n b := by
  have present : s.hasAddr a := by
    by_contra absent
    rw [chainAddr_one_absent absent] at h
    cases h
  obtain ⟨w, hw⟩ := memRead_next_iff.mpr present
  rw [chainAddr_one hw] at h
  split at h
  · rename_i further
    cases h
    rw [followChain_next hw, further, multi, addrOf_eq_setWidth]
    rfl
  · cases h

/-- The words of a chain are followed as long as there are words to read. -/
theorem followChain_add (multi : s.cfg.indirectMultilevel = true) {m : Nat} (h : chainAddr s a m = some b) (n : Nat) :
    followChain s (m + n) a = followChain s n b := by
  induction m generalizing a with
  | zero => cases h; rw [Nat.zero_add]
  | succ m ih =>
    rw [Nat.add_comm, chainAddr_add] at h
    obtain ⟨c, first, rest⟩ := Option.bind_eq_some_iff.mp h
    rw [Nat.add_right_comm, followChain_of_some multi first, ih rest]

/-- The last word of a chain gives its address, and is not a hang. -/
theorem followChain_last {w : Word} (hw : memRead s a = .next w)
    (last : w.getLsbD 15 = false ∨ s.cfg.indirectMultilevel = false) (n : Nat) :
    followChain s (n + 1) a = .next (w.setWidth 15) := by
  rw [followChain_next hw, if_neg (by rcases last with h | h <;> rw [h] <;> simp), addrOf_eq_setWidth]

/-- A word that does not lead on ends the chain: in an address, or in a refusal. -/
theorem followChain_end (h : chainAddr s a 1 = none ∨ s.cfg.indirectMultilevel = false) (n : Nat) :
    followChain s (n + 1) a ≠ .fault .indirectHang := by
  by_cases present : s.hasAddr a
  · obtain ⟨w, hw⟩ := memRead_next_iff.mpr present
    have last : w.getLsbD 15 = false ∨ s.cfg.indirectMultilevel = false := by
      refine h.imp_left fun none => ?_
      rw [chainAddr_one hw] at none
      simpa using none
    rw [followChain_last hw last]
    nofun
  · rw [followChain_refused (memRead_absent present)]
    nofun

/-- A chain that reaches the level of the bound never ends. -/
theorem chain_endless (h : (chainAddr s a chainFuel).isSome = true) (n : Nat) : (chainAddr s a n).isSome = true := by
  induction n with
  | zero => rfl
  | succ n ih =>
    obtain ⟨b, hb⟩ := Option.isSome_iff_exists.mp ih
    rw [chainAddr_add_of_eq hb]
    by_contra ends
    have short : n < chainFuel := chain_end_lt hb (by simpa using ends)
    exact ends (chainAddr_add_of_eq hb 1 ▸ chainAddr_isSome_of_le h short)

/-- With further levels, following a chain for some words hangs exactly where they all lead on. -/
theorem followChain_hang_iff (multi : s.cfg.indirectMultilevel = true) (n : Nat) :
    followChain s n a = .fault .indirectHang ↔ (chainAddr s a n).isSome = true := by
  induction n generalizing a with
  | zero => simp [followChain_zero, chainAddr]
  | succ n ih =>
    rw [Nat.add_comm n 1, chainAddr_add, Nat.add_comm 1 n]
    cases first : chainAddr s a 1 with
    | none => simpa using followChain_end (.inl first) n
    | some b => rw [followChain_of_some multi first, ih, Option.bind_some]

end

/-- The bound is some word more than none. -/
theorem effectiveAddr_indirect_succ {s : State} {x : MemRef} (h : x.ind = true) :
    effectiveAddr s x = followChain s (32767 + 1) (directAddr x s.fa) := effectiveAddr_indirect h

/-- Settles O31: a chain that ends does so before the bound, so following it comes to its last word. -/
theorem effectiveAddressLevels : Obligations.EffectiveAddressLevels := by
  intro s x
  refine ⟨effectiveAddr_direct, fun ind single => ⟨fun w hw => ?_, fun absent => ?_⟩,
    fun ind multi n b hb => ⟨fun w hw last => ?_, fun absent => ?_⟩⟩
  · rw [effectiveAddr_indirect_succ ind, followChain_last hw (.inr single)]
  · rw [effectiveAddr_indirect_succ ind, followChain_refused (memRead_absent absent)]
  · have short : n < chainFuel := chain_end_lt hb (by rw [chainAddr_one hw, last]; rfl)
    obtain ⟨k, hk⟩ := Nat.exists_eq_add_of_lt short
    rw [effectiveAddr_indirect ind, hk, Nat.add_assoc, followChain_add multi hb, followChain_last hw (.inl last)]
  · have short : n < chainFuel := chain_end_lt hb (chainAddr_one_absent absent)
    obtain ⟨k, hk⟩ := Nat.exists_eq_add_of_lt short
    rw [effectiveAddr_indirect ind, hk, Nat.add_assoc, followChain_add multi hb,
      followChain_refused (memRead_absent absent)]

/-- Settles O32: following to the bound hangs where all its words lead on, and then the chain never ends. -/
theorem hangExactlyWhenEndless : Obligations.HangExactlyWhenEndless := by
  intro s x
  cases ind : x.ind with
  | false => simp [effectiveAddr_direct ind]
  | true =>
    cases multi : s.cfg.indirectMultilevel with
    | false => simpa using effectiveAddr_indirect_succ ind ▸ followChain_end (.inr multi) 32767
    | true =>
      rw [effectiveAddr_indirect ind, followChain_hang_iff multi]
      exact ⟨fun h => ⟨rfl, rfl, chain_endless h⟩, fun ⟨_, _, all⟩ => all chainFuel⟩

end Sys2Proof.Machine
end

section
/-! PROOFS. Reads after writes, and the memory reference instructions that write memory, add, compare or stop. -/

namespace Sys2Proof.Machine

open Sys2Proof.Statement

/-! ## A read after a write -/

/-- What a read looks at: the word at its address, or the register that stands there (D11). -/
theorem memRead_congr {s t : State} {b : Addr} (hcfg : t.cfg = s.cfg) (ha : b = 0 → t.a = s.a) (hb : b = 1 → t.b = s.b)
    (hmem : t.mem.wordAt b = s.mem.wordAt b) : memRead t b = memRead s b := by
  unfold memRead
  rw [hcfg, hmem]
  split
  · rename_i h0; rw [ha h0]
  · split
    · rename_i h1; rw [hb h1]
    · rfl

/-- In canonical memory a read gives the word just written. -/
theorem memRead_memWrite_self {s t : State} {m : Addr} {v : Word} (canonical : s.mem.wf = true)
    (h : memWrite s m v = .next t) : memRead t m = .next v := by
  rcases memWrite_cases h with ⟨rfl, rfl⟩ | ⟨rfl, rfl⟩ | ⟨h0, h1, hm, rfl⟩
  · rfl
  · rfl
  · have read := memRead_cell (s := s.setMem (s.mem.setWord m v)) h0 h1 hm
    rwa [State.setMem_mem, Memory.wordAt_setWord_self canonical] at read

/-- A write leaves what is read at the other addresses. -/
theorem memRead_memWrite_ne {s t : State} {m b : Addr} {v : Word} (h : memWrite s m v = .next t) (hb : b ≠ m) :
    memRead t b = memRead s b := by
  rcases memWrite_cases h with ⟨rfl, rfl⟩ | ⟨rfl, rfl⟩ | ⟨-, -, -, rfl⟩
  · exact memRead_congr rfl (absurd · hb) (fun _ => rfl) rfl
  · exact memRead_congr rfl (fun _ => rfl) (absurd · hb) rfl
  · exact memRead_congr rfl (fun _ => rfl) (fun _ => rfl) (Memory.wordAt_setWord_ne s.mem v hb)

/-- Settles O33. -/
theorem readsSeeLatestWrite : Obligations.ReadsSeeLatestWrite := by
  intro s a v
  refine ⟨memRead_zero s, memRead_one s, fun canonical present => ?_, fun absent => ?_⟩
  · obtain ⟨t, ht⟩ := memWrite_next v present
    exact ⟨t, ht, memRead_memWrite_self canonical ht, fun b hb => memRead_memWrite_ne ht hb⟩
  · exact ⟨memWrite_absent v absent, memRead_absent absent⟩

/-! ## Instructions that store -/

/-- A write stores its word at its address, in canonical memory, and leaves everything else. -/
theorem storedAt_of_memWrite {s t : State} {m : Addr} {v : Word} (canonical : s.mem.wf = true)
    (h : memWrite s m v = .next t) : storedAt s t m v ∧ t.p = s.p := by
  rcases memWrite_cases h with ⟨rfl, rfl⟩ | ⟨rfl, rfl⟩ | ⟨h0, h1, -, rfl⟩
  · exact ⟨⟨rfl, rfl, rfl, fun _ => rfl, fun h0 => absurd rfl h0, fun _ _ _ => rfl⟩, rfl⟩
  · exact ⟨⟨rfl, rfl, rfl, fun _ => rfl, fun _ h1 => absurd rfl h1, fun _ _ _ => rfl⟩, rfl⟩
  · refine ⟨⟨rfl, (if_neg h0).symm, (if_neg h1).symm, ?_, fun _ _ => ?_, fun k hk hk1 => ?_⟩, rfl⟩
    · exact fun register => absurd register (not_or.mpr ⟨h0, h1⟩)
    · exact Memory.wordAt_setWord_self canonical m v
    · exact Memory.byteAt_setWord_ne s.mem v hk hk1

/-- What is said of a store leaves P open. -/
theorem storedAt_setP {s t : State} {m : Addr} {v : Word} (h : storedAt s t m v) (p : Addr) :
    storedAt s (t.setP p) m v := by
  obtain ⟨frame, ha, hb, registers, word, bytes⟩ := h
  refine ⟨?_, ha, hb, registers, word, bytes⟩
  rw [frame]
  rfl

theorem exec_isz (x : MemRef) (s : State) : exec (.isz x) s = incrementSkip x s := rfl
theorem exec_jsb (x : MemRef) (s : State) : exec (.jsb x) s = jumpSubroutine x s := rfl

/-- Settles O35: rows 1110 and 1111 of R83, and a store is the write of its register. -/
theorem storePutsRegister : Obligations.StorePutsRegister := by
  have sta_row : mrgEncoding 0b1110 .sta := mrgEncoding_of_mrgInstr (by decide) fun _ => rfl
  have stb_row : mrgEncoding 0b1111 .stb := mrgEncoding_of_mrgInstr (by decide) fun _ => rfl
  refine ⟨sta_row, stb_row, fun s x m canonical hm present => ?_⟩
  have store (r : Reg) : ∃ t, storeMem r x s = .next t ∧ storedAt s t m (s.reg r) ∧ t.p = s.p := by
    obtain ⟨t, ht⟩ := memWrite_next (s.reg r) present
    exact ⟨t, storeMem_eq_next.mpr ⟨m, hm, ht⟩, storedAt_of_memWrite canonical ht⟩
  exact ⟨store .A, store .B⟩

/-- Adding one, by numbers. -/
theorem add_one_eq_ofNat (v : Word) : v + 1 = BitVec.ofNat 16 (v.toNat + 1) := by bv_omega

theorem add_one_eq_zero_iff (v : Word) : (v + 1 == 0) = true ↔ v.toNat = 65535 := by
  rw [beq_iff_eq]
  bv_omega

/-- Settles O39: ISZ writes the word plus one where it read it, and then skips or not. -/
theorem incrementAndSkip : Obligations.IncrementAndSkip := by
  intro s x m v canonical hm hv
  obtain ⟨t, ht⟩ := memWrite_next (v + 1) (memRead_next_iff.mp ⟨v, hv⟩)
  obtain ⟨stored, hp⟩ := storedAt_of_memWrite canonical ht
  refine ⟨t.skipIf (v + 1 == 0), ?_, ?_, ?_⟩
  · exact (exec_isz x s).trans (incrementSkip_eq_next.mpr ⟨m, v, t, hm, hv, ht, rfl⟩)
  · rw [skipIf_eq, ← add_one_eq_ofNat]
    exact storedAt_setP stored _
  · rw [State.skipIf_p, hp]
    simp only [add_one_eq_zero_iff]

/-- P, as the word that is stored: bit 15 is zero. -/
theorem setWidth_eq_ofNat (a : Addr) : a.setWidth 16 = BitVec.ofNat 16 a.toNat := by
  apply BitVec.eq_of_toNat_eq
  rw [BitVec.toNat_setWidth, BitVec.toNat_ofNat]

/-- Settles O41: JSB writes P and then changes it. -/
theorem jumpSubroutineStoresP : Obligations.JumpSubroutineStoresP := by
  intro s x m canonical hm present
  obtain ⟨t, ht⟩ := memWrite_next (s.p.setWidth 16) present
  obtain ⟨stored, -⟩ := storedAt_of_memWrite canonical ht
  refine ⟨t.setP (m + 1), ?_, ?_, ?_⟩
  · exact (exec_jsb x s).trans (jumpSubroutine_eq_next.mpr ⟨m, t, hm, ht, rfl⟩)
  · rw [← setWidth_eq_ofNat]
    exact storedAt_setP stored _
  · rw [State.setP_p]
    bv_omega

/-- Settles O42: the entry word has bit 15 zero, so it is the last of the chain of the indirect jump. -/
theorem returnThroughEntryWord : Obligations.ReturnThroughEntryWord := by
  intro s t u x y m canonical hm present ht hread ind direct
  obtain ⟨m', v, hm', hv, rfl⟩ := jumpSubroutine_eq_next.mp ((exec_jsb x s).symm.trans ht)
  obtain rfl : m = m' := Host.Outcome.next.inj (hm.symm.trans hm')
  have jumped : memRead (v.setP (m + 1)) m = memRead v m := memRead_congr rfl (fun _ => rfl) (fun _ => rfl) rfl
  have entry_word : memRead u m = .next (s.p.setWidth 16) := by
    rw [hread, jumped, memRead_memWrite_self canonical hv]
  have last : (s.p.setWidth 16).getLsbD 15 = false := by simp
  have address : (s.p.setWidth 16).setWidth 15 = s.p := by rw [← addrOf_eq_setWidth, addrOf_setWidth]
  have target : effectiveAddr u y = .next s.p := by
    rw [effectiveAddr_indirect_succ ind, direct, followChain_last entry_word (.inl last), address]
  exact (exec_jmp y u).trans (jump_eq_next.mpr ⟨s.p, target, rfl⟩)

/-! ## Instructions that add or compare -/

theorem exec_ada (x : MemRef) (s : State) : exec (.ada x) s = addMem .A x s := rfl
theorem exec_adb (x : MemRef) (s : State) : exec (.adb x) s = addMem .B x s := rfl
theorem exec_cpa (x : MemRef) (s : State) : exec (.cpa x) s = compareMem .A x s := rfl
theorem exec_cpb (x : MemRef) (s : State) : exec (.cpb x) s = compareMem .B x s := rfl

/-- An addition to a register, by numbers (R213). -/
theorem addToReg_eq (r : Reg) (v : Word) (s : State) :
    addToReg r v s =
      (s.setReg r (BitVec.ofNat 16 ((s.reg r).toNat + v.toNat))).setSticky
        (decide (65536 ≤ (s.reg r).toNat + v.toNat))
        (decide ((s.reg r).toInt + v.toInt < -32768 ∨ 32767 < (s.reg r).toInt + v.toInt)) := by
  have sum : s.reg r + v = BitVec.ofNat 16 ((s.reg r).toNat + v.toNat) := by
    apply BitVec.eq_of_toNat_eq
    rw [BitVec.toNat_add, BitVec.toNat_ofNat]
  rw [addToReg, sum, carryOut_eq, signedOverflow_eq]

/-- Settles O36: an addition is that of the operand to the register. -/
theorem addSetsFlags : Obligations.AddSetsFlags := by
  intro s x m v hm hv
  have add (r : Reg) : addMem r x s = .next (addToReg r v s) :=
    addMem_eq_next.mpr ⟨v, operand_eq_next.mpr ⟨m, hm, hv⟩, rfl⟩
  exact ⟨(exec_ada x s).trans ((add .A).trans (by rw [addToReg_eq]; rfl)),
    (exec_adb x s).trans ((add .B).trans (by rw [addToReg_eq]; rfl))⟩

/-- Settles O37: a comparison skips where the register and the operand differ. -/
theorem compareSkips : Obligations.CompareSkips := by
  intro s x m v hm hv
  have compare (r : Reg) : compareMem r x s = .next (s.setP (if s.reg r = v then s.p else s.p + 1)) := by
    refine compareMem_eq_next.mpr ⟨v, operand_eq_next.mpr ⟨m, hm, hv⟩, ?_⟩
    rw [skipIf_eq]
    by_cases equal : s.reg r = v <;> simp [equal]
  exact ⟨(exec_cpa x s).trans (compare .A), (exec_cpb x s).trans (compare .B)⟩

/-! ## Instructions that stop -/

/-- The instruction begins with the effective address, and unless it is JMP it stops where no memory is installed. -/
def beginsWithAddress (x : MemRef) (i : Instr) : Prop :=
  ∃ f : State → Addr → Res State,
    (∀ s, exec i s = andThen (effectiveAddr s x) (f s)) ∧
    (i ≠ .jmp x → ∀ s m, ¬ s.hasAddr m → f s m = .refused (.memoryNotInstalled m))

/-- The instructions that go on with the operand (R210). -/
theorem beginsWithAddress_of_operand {x : MemRef} {i : Instr} {g : State → Word → Res State}
    (h : ∀ s, exec i s = andThen (operand s x) (g s)) : beginsWithAddress x i := by
  refine ⟨fun s m => andThen (memRead s m) (g s), fun s => ?_, fun _ s m absent => ?_⟩
  · rw [h]
    unfold operand
    cases effectiveAddr s x <;> rfl
  · show andThen (memRead s m) (g s) = _
    rw [memRead_absent absent, andThen_refused]

/-- Every memory reference instruction begins with the effective address. -/
theorem exec_beginsWithAddress {x : MemRef} {i : Instr}
    (hi : i = .and x ∨ i = .xor x ∨ i = .ior x ∨ i = .isz x ∨ i = .ada x ∨ i = .adb x ∨ i = .cpa x ∨ i = .cpb x ∨
      i = .lda x ∨ i = .ldb x ∨ i = .sta x ∨ i = .stb x ∨ i = .jsb x ∨ i = .jmp x) : beginsWithAddress x i := by
  rcases hi with rfl | rfl | rfl | rfl | rfl | rfl | rfl | rfl | rfl | rfl | rfl | rfl | rfl | rfl
  · exact beginsWithAddress_of_operand fun _ => rfl
  · exact beginsWithAddress_of_operand fun _ => rfl
  · exact beginsWithAddress_of_operand fun _ => rfl
  · exact ⟨_, fun _ => rfl, fun _ s m absent => by rw [memRead_absent absent, andThen_refused]⟩
  · exact beginsWithAddress_of_operand fun _ => rfl
  · exact beginsWithAddress_of_operand fun _ => rfl
  · exact beginsWithAddress_of_operand fun _ => rfl
  · exact beginsWithAddress_of_operand fun _ => rfl
  · exact beginsWithAddress_of_operand fun _ => rfl
  · exact beginsWithAddress_of_operand fun _ => rfl
  · exact ⟨_, fun _ => rfl, fun _ s m absent => memWrite_absent _ absent⟩
  · exact ⟨_, fun _ => rfl, fun _ s m absent => memWrite_absent _ absent⟩
  · exact ⟨_, fun _ => rfl, fun _ s m absent => by rw [memWrite_absent _ absent, andThen_refused]⟩
  · exact ⟨_, fun _ => rfl, fun not_jmp => absurd rfl not_jmp⟩

/-- Settles O43: a fault or refusal of the address is that of the instruction. -/
theorem memoryReferenceStops : Obligations.MemoryReferenceStops := by
  intro s x i hi
  obtain ⟨f, begins, stops⟩ := exec_beginsWithAddress hi
  refine ⟨fun hang => ?_, fun m hm absent not_jmp => ?_, fun a refused => ?_⟩
  · rw [begins, hang, andThen_fault]
  · rw [begins, hm, andThen_next, stops not_jmp s m absent]
  · rw [begins, refused, andThen_refused]

end Sys2Proof.Machine
end

section
/-! PROOFS. The Input/Output Group on an interface, and on select codes 00, 01 and 04. -/

namespace Sys2Proof.Machine

open Sys2Proof.Statement

/-! ## Each instruction by its operation -/

theorem exec_hlt (f : Bool) (sc : SelectCode) (s : State) : exec (.hlt f sc) s = clearIf f sc (s.setRun false) := rfl
theorem exec_stf (sc : SelectCode) (s : State) : exec (.stf sc) s = setFlag sc true s := rfl
theorem exec_clf (sc : SelectCode) (s : State) : exec (.clf sc) s = setFlag sc false s := rfl
theorem exec_stc (f : Bool) (sc : SelectCode) (s : State) : exec (.stc f sc) s = writeControl true f sc s := rfl
theorem exec_clc (f : Bool) (sc : SelectCode) (s : State) : exec (.clc f sc) s = writeControl false f sc s := rfl

section
variable {sc : SelectCode} {s u : State} {f v : Bool} {w : Word}

/-- A flag test that is allowed: on the flag as it was, then the clear, then the skip (R170, R93). -/
theorem exec_flag_tests (allowed : f = false ∨ s.cfg.sfxClearForm = .testThenClear) (hv : getFlag sc s = .next v)
    (hu : clearIf f sc s = .next u) :
    exec (.sfs f sc) s = .next (u.setP (if v then u.p + 1 else u.p)) ∧
      exec (.sfc f sc) s = .next (u.setP (if v then u.p else u.p + 1)) := by
  constructor
  · refine skipOnFlagListed_eq_next.mpr ⟨allowed, skipOnFlag_eq_next.mpr ⟨v, u, hv, hu, ?_⟩⟩
    rw [skipIf_eq]
    cases v <;> rfl
  · refine skipOnFlagListed_eq_next.mpr ⟨allowed, skipOnFlag_eq_next.mpr ⟨v, u, hv, hu, ?_⟩⟩
    rw [skipIf_eq]
    cases v <;> rfl

/-- A flag test of a channel without a flag is refused. -/
theorem exec_flag_tests_refused (allowed : f = false ∨ s.cfg.sfxClearForm = .testThenClear)
    (none : getFlag sc s = noFunction sc) :
    exec (.sfs f sc) s = .refused (.noChannelFunction sc) ∧ exec (.sfc f sc) s = .refused (.noChannelFunction sc) := by
  have listed (want : Bool) : skipOnFlagListed want f sc s = skipOnFlag want f sc s := by
    rcases allowed with rfl | hcfg
    · rfl
    · rw [skipOnFlagListed, hcfg, if_neg (by simp)]
  have refused (want : Bool) : skipOnFlag want f sc s = .refused (.noChannelFunction sc) := by
    rw [skipOnFlag, none]
    rfl
  exact ⟨(listed true).trans (refused true), (listed false).trans (refused false)⟩

/-- MIr and LIr, where the channel has an input register (R177, R178). -/
theorem exec_inputs (h : input sc s = .next w) :
    exec (.mia f sc) s = clearIf f sc (s.setReg .A (s.a ||| w)) ∧
    exec (.mib f sc) s = clearIf f sc (s.setReg .B (s.b ||| w)) ∧
    exec (.lia f sc) s = clearIf f sc (s.setReg .A w) ∧ exec (.lib f sc) s = clearIf f sc (s.setReg .B w) := by
  have merge (r : Reg) : mergeInput r f sc s = clearIf f sc (s.setReg r (s.reg r ||| w)) := by
    rw [mergeInput, h, andThen_next]
  have load (r : Reg) : loadInput r f sc s = clearIf f sc (s.setReg r w) := by rw [loadInput, h, andThen_next]
  exact ⟨merge .A, merge .B, load .A, load .B⟩

/-- MIr and LIr, where it has none. -/
theorem exec_inputs_refused (h : input sc s = noFunction sc) :
    exec (.mia f sc) s = .refused (.noChannelFunction sc) ∧ exec (.mib f sc) s = .refused (.noChannelFunction sc) ∧
    exec (.lia f sc) s = .refused (.noChannelFunction sc) ∧ exec (.lib f sc) s = .refused (.noChannelFunction sc) := by
  have merge (r : Reg) : mergeInput r f sc s = .refused (.noChannelFunction sc) := by rw [mergeInput, h]; rfl
  have load (r : Reg) : loadInput r f sc s = .refused (.noChannelFunction sc) := by rw [loadInput, h]; rfl
  exact ⟨merge .A, merge .B, load .A, load .B⟩

theorem outputReg_of_output {r : Reg} (h : output sc (s.reg r) s = .next u) : outputReg r f sc s = clearIf f sc u := by
  rw [outputReg, h, andThen_next]

theorem writeControl_of_setCtl (h : setCtl sc v s = .next u) : writeControl v f sc s = clearIf f sc u := by
  rw [writeControl, h, andThen_next]

theorem outputReg_refused {r : Reg} (h : output sc (s.reg r) s = noFunction sc) :
    outputReg r f sc s = .refused (.noChannelFunction sc) := by rw [outputReg, h]; rfl

theorem writeControl_refused (h : setCtl sc v s = noFunction sc) :
    writeControl v f sc s = .refused (.noChannelFunction sc) := by rw [writeControl, h]; rfl

end

theorem exec_ota (f : Bool) (sc : SelectCode) (s : State) : exec (.ota f sc) s = outputReg .A f sc s := rfl
theorem exec_otb (f : Bool) (sc : SelectCode) (s : State) : exec (.otb f sc) s = outputReg .B f sc s := rfl

/-! ## An installed interface -/

/-- An interface written back as it was changes nothing. -/
theorem setIface_self {s : State} {c : SelectCode} {d : Interface} (h : s.iface c = some d) : s.setIface c d = s := by
  have slots : (s.setIface c d).slots = s.slots := by
    apply slots_eq_of_iface
    intro k
    rw [iface_setIface]
    split
    · subst_vars; exact h.symm
    · rfl
  exact State.ext_fields rfl rfl rfl rfl rfl rfl rfl rfl rfl rfl slots rfl rfl rfl rfl rfl

/-- Of two changes of an interface the second stays. -/
theorem setIface_setIface (s : State) (c : SelectCode) (d d' : Interface) :
    (s.setIface c d).setIface c d' = s.setIface c d' := by
  have slots : ((s.setIface c d).setIface c d').slots = (s.setIface c d').slots := by
    apply slots_eq_of_iface
    intro k
    simp only [iface_setIface]
    split <;> rfl
  exact State.ext_fields rfl rfl rfl rfl rfl rfl rfl rfl rfl rfl slots rfl rfl rfl rfl rfl

/-- Settles O50: a write to the vector of interfaces is at one place. -/
theorem interfaceWriteIsLocal : Obligations.InterfaceWriteIsLocal := fun s sc k d =>
  ⟨iface_setIface s sc k d, rfl⟩

section
variable {sc : SelectCode} {s : State} {d : Interface} (high : 8 ≤ sc.toNat) (hd : s.iface sc = some d)
include high hd

/-- The flag clear of `f` on an interface (R170, R171). -/
theorem clearIf_interface (f : Bool) :
    clearIf f sc s = .next (s.setIface sc (if f then { d with flag := false, ack := false } else d)) := by
  cases f with
  | false => exact congrArg Host.Outcome.next (setIface_self hd).symm
  | true => rw [clearIf_true, setFlag_interface high hd, setFlag_false]; rfl

/-- The flag tests on an interface, with and without `f` (R175, R176, R93). -/
theorem flag_tests_interface {f : Bool} (allowed : f = false ∨ s.cfg.sfxClearForm = .testThenClear) :
    exec (.sfs f sc) s = .next
        { s.setIface sc (if f then { d with flag := false, ack := false } else d) with
          p := if d.flag then s.p + 1 else s.p } ∧
      exec (.sfc f sc) s = .next
        { s.setIface sc (if f then { d with flag := false, ack := false } else d) with
          p := if d.flag then s.p else s.p + 1 } :=
  exec_flag_tests allowed (getFlag_interface high hd) (clearIf_interface high hd f)

end

/-- Settles O44: RUN first, then the flag clear of the channel. -/
theorem haltStopsProcessor : Obligations.HaltStopsProcessor := by
  intro s sc d
  refine ⟨rfl, rfl, rfl, fun high hd => ?_⟩
  have halted : (s.setRun false).iface sc = some d := hd
  exact (exec_hlt true sc s).trans (clearIf_interface high halted true)

/-- Settles O45: the flag function of an interface. -/
theorem flagSetAndClear : Obligations.FlagSetAndClear := by
  intro s sc d high hd
  constructor
  · rw [exec_stf, setFlag_interface high hd, setFlag_true]
  · rw [exec_clf, setFlag_interface high hd, setFlag_false]

/-- Settles O46: the flag test without its clear. -/
theorem flagTests : Obligations.FlagTests := by
  intro s sc d high hd
  obtain ⟨sfs, sfc⟩ := flag_tests_interface high hd (.inl rfl : false = false ∨ _)
  simp only [Bool.false_eq_true, if_false, setIface_self hd] at sfs sfc
  exact ⟨sfc, sfs⟩

/-- Settles O48: the main action, then the flag clear on what it left. -/
theorem interfaceData : Obligations.InterfaceData := by
  intro s sc d f high hd cleared
  obtain ⟨mia, mib, lia, lib⟩ := exec_inputs (f := f) (input_interface high hd)
  have read (r : Reg) (v : Word) : clearIf f sc (s.setReg r v) = .next ((s.setReg r v).setIface sc (cleared d)) :=
    clearIf_interface high (by simpa using hd) f
  have write (r : Reg) : outputReg r f sc s = .next (s.setIface sc (cleared { d with obuf := s.reg r })) := by
    rw [outputReg_of_output (output_interface high hd _),
      clearIf_interface (d := { d with obuf := s.reg r }) high (by simp), setIface_setIface]
  exact ⟨mia.trans (read .A _), mib.trans (read .B _), lia.trans (read .A _), lib.trans (read .B _), write .A, write .B⟩

/-- Settles O49: the control bit, then the flag clear on what it left. -/
theorem interfaceControl : Obligations.InterfaceControl := by
  intro s sc d high hd
  have control (v f : Bool) : writeControl v f sc s =
      .next (s.setIface sc (if f then { d.setCtl v with flag := false, ack := false } else d.setCtl v)) := by
    rw [writeControl_of_setCtl (setCtl_interface high hd v), clearIf_interface (d := d.setCtl v) high (by simp),
      setIface_setIface]
  refine ⟨?_, ?_, ?_, ?_⟩
  · rw [exec_stc, control, setCtl_true]; rfl
  · rw [exec_stc, control, setCtl_true]; rfl
  · rw [exec_clc, control, setCtl_false]; rfl
  · rw [exec_clc, control, setCtl_false]; rfl

/-! ## Select codes 00, 01 and 04 -/

/-- The flag clear of `f` on 00 clears IEN. -/
theorem clearIf_system (f : Bool) (s : State) : clearIf f 0 s = .next (s.setIen (s.ien && !f)) := by
  cases f with
  | false => rw [Bool.not_false, Bool.and_true]; rfl
  | true => rw [Bool.not_true, Bool.and_false]; rfl

/-- The flag clear of `f` on 01 clears O. -/
theorem clearIf_panel (f : Bool) (s : State) : clearIf f 1 s = .next (s.setO (s.o && !f)) := by
  cases f with
  | false => rw [Bool.not_false, Bool.and_true]; rfl
  | true => rw [Bool.not_true, Bool.and_false]; rfl

/-- Settles O47: the parameter decides first; then the test and the clear of the channel. -/
theorem flagTestsClearForm : Obligations.FlagTestsClearForm := by
  intro s sc d
  refine ⟨fun refuse => ?_, fun allowed => ?_, fun allowed => ?_, fun allowed high hd => ?_⟩
  · have refused (want : Bool) : skipOnFlagListed want true sc s = .refused (.clearFormNotListed sc) := by
      rw [skipOnFlagListed, refuse, if_pos (by rfl)]
    exact ⟨refused false, refused true⟩
  · exact (exec_flag_tests (sc := 0) (f := true) (.inr allowed) rfl rfl).symm
  · exact (exec_flag_tests_refused (sc := 4) (.inr allowed) rfl).symm
  · exact (flag_tests_interface high hd (.inr allowed)).symm

/-- Settles O52: the flag of 01 is O. -/
theorem overflowTests : Obligations.OverflowTests := by
  intro s f
  have test (want : Bool) : skipOnFlag want f 1 s = .next ((s.setO (s.o && !f)).skipIf (s.o == want)) :=
    skipOnFlag_eq_next.mpr ⟨s.o, _, rfl, clearIf_panel f s, rfl⟩
  have sos : exec (.sos f) s = skipOnFlag true f 1 s := rfl
  have soc : exec (.soc f) s = skipOnFlag false f 1 s := rfl
  rw [sos, soc, test, test, skipIf_eq, skipIf_eq]
  cases s.o <;> exact ⟨rfl, rfl⟩

/-- Settles O53: the functions of 00, most of them neutral. -/
theorem systemChannel : Obligations.SystemChannel := by
  intro s f
  have no_output (r : Reg) : outputReg r f 0 s = .next (s.setIen (s.ien && !f)) := clearIf_system f s
  obtain ⟨sfs, sfc⟩ := exec_flag_tests (sc := 0) (s := s) (f := false) (.inl rfl) rfl rfl
  obtain ⟨mia, mib, lia, lib⟩ := exec_inputs (sc := 0) (s := s) (f := f) rfl
  have or_zero (w : Word) : w ||| 0 = w := BitVec.or_zero
  rw [or_zero] at mia mib
  exact ⟨rfl, rfl, sfs, sfc, lia.trans (clearIf_system f _), lib.trans (clearIf_system f _),
    mia.trans (clearIf_system f _), mib.trans (clearIf_system f _), no_output .A, no_output .B, clearIf_system f s⟩

/-- Settles O54: every interface and an installed DMA board are changed by `clearControls`, and then IEN by `f`. -/
theorem clearAllControls : Obligations.ClearAllControls := by
  intro s f
  refine ⟨_, (exec_clc f 0 s).trans (clearIf_system f (clearControls s)), rfl, fun sc => ?_, rfl⟩
  rw [State.setIen_iface, clearControls_iface]
  simp only [setCtl_false]

/-- Settles O55: the S-register is there by model. -/
theorem panelChannel : Obligations.PanelChannel := by
  intro s f
  obtain ⟨mia, mib, lia, lib⟩ := exec_inputs (sc := 1) (s := s) (f := f) rfl
  have output_S (r : Reg) (has : hasSRegister s.cfg = true) :
      outputReg r f 1 s = .next ((s.setSreg (s.reg r)).setO (s.o && !f)) := by
    have written : output 1 (s.reg r) s = .next (s.setSreg (s.reg r)) := by simp [output, has]
    rw [outputReg_of_output written, clearIf_panel]
    rfl
  have output_none (r : Reg) (has : hasSRegister s.cfg = false) : outputReg r f 1 s = .next (s.setO (s.o && !f)) := by
    have discarded : output 1 (s.reg r) s = .next s := by simp [output, has]
    rw [outputReg_of_output discarded, clearIf_panel]
  refine ⟨lia.trans (clearIf_panel f _), lib.trans (clearIf_panel f _), mia.trans (clearIf_panel f _),
    mib.trans (clearIf_panel f _), clearIf_panel f s, clearIf_panel f s, fun model => ?_, fun model => ?_⟩
  · have has : hasSRegister s.cfg = true := by
      rcases model with h | ⟨h, h'⟩
      · rw [hasSRegister, h]
      · rw [hasSRegister, h, h']
    exact ⟨output_S .A has, output_S .B has⟩
  · have has : hasSRegister s.cfg = false := by
      rcases model with h | h | ⟨h, h'⟩
      · rw [hasSRegister, h]
      · rw [hasSRegister, h]
      · rw [hasSRegister, h, h']
    exact ⟨output_none .A has, output_none .B has⟩

/-- Settles O56: 04 has an input register and no other function. -/
theorem lastInterruptChannel : Obligations.LastInterruptChannel := by
  intro s f
  have cir : input 4 s = .next (BitVec.ofNat 16 s.cir.toNat) := by
    have width : s.cir.setWidth 16 = BitVec.ofNat 16 s.cir.toNat := by
      apply BitVec.eq_of_toNat_eq
      rw [BitVec.toNat_setWidth, BitVec.toNat_ofNat]
    rw [← width]
    rfl
  obtain ⟨mia, mib, lia, lib⟩ := exec_inputs (f := false) cir
  obtain ⟨mia', mib', lia', lib'⟩ := exec_inputs (f := true) cir
  obtain ⟨sfs, sfc⟩ := exec_flag_tests_refused (sc := 4) (s := s) (f := false) (.inl rfl) rfl
  exact ⟨lia, lib, mia, mib, rfl, rfl, lia', mia', lib', mib', sfs, sfc, rfl, rfl, rfl, rfl, rfl, rfl⟩

end Sys2Proof.Machine
end

section
/-! PROOFS. The Input/Output Group where nothing is installed, on the option boards, and the release of a priority
level. -/

namespace Sys2Proof.Machine

open Sys2Proof.Statement

/-! ## A select code with nothing installed -/

/-- Nothing is installed behind the select code (R190, R171). -/
def State.emptyAt (s : State) (sc : SelectCode) : Prop :=
  (8 ≤ sc.toNat ∧ s.iface sc = none) ∨ (sc.toNat = 5 ∧ s.guard = none) ∨
    ((sc.toNat = 2 ∨ sc.toNat = 3 ∨ sc.toNat = 6 ∨ sc.toNat = 7) ∧ s.dma = none)

/-- The kinds of select code behind which something can be missing. -/
theorem emptyAt_cases {s : State} {sc : SelectCode} (h : s.emptyAt sc) :
    (channelKind sc = .interface ∧ s.iface sc = none) ∨ (channelKind sc = .guard ∧ s.guard = none) ∨
      (∃ n, channelKind sc = .dmaControl n ∧ s.dma = none) ∨ ∃ n, channelKind sc = .dmaDevice n ∧ s.dma = none := by
  rcases h with ⟨high, none⟩ | ⟨five, none⟩ | ⟨two | three | six | seven, none⟩
  · exact .inl ⟨channelKind_interface high, none⟩
  · exact .inr (.inl ⟨by rw [channelKind, five]; rfl, none⟩)
  · exact .inr (.inr (.inl ⟨.one, by rw [channelKind, two]; rfl, none⟩))
  · exact .inr (.inr (.inl ⟨.two, by rw [channelKind, three]; rfl, none⟩))
  · exact .inr (.inr (.inr ⟨.one, by rw [channelKind, six]; rfl, none⟩))
  · exact .inr (.inr (.inr ⟨.two, by rw [channelKind, seven]; rfl, none⟩))

/-- No channel access function answers there. -/
theorem access_of_emptyAt {s : State} {sc : SelectCode} (h : s.emptyAt sc) :
    getFlag sc s = noFunction sc ∧ (∀ v, setFlag sc v s = noFunction sc) ∧ (∀ v, setCtl sc v s = noFunction sc) ∧
      input sc s = noFunction sc ∧ ∀ v, output sc v s = noFunction sc := by
  rcases emptyAt_cases h with ⟨kind, none⟩ | ⟨kind, none⟩ | ⟨n, kind, none⟩ | ⟨n, kind, none⟩ <;>
    simp [getFlag, setFlag, setCtl, input, output, kind, none, readPart, updateIface, updateGuard, updateDma, noFunction]

/-- Settles O57: the first channel access function an instruction asks for refuses it. -/
theorem emptySelectCodeRefused : Obligations.EmptySelectCodeRefused := by
  intro s sc f empty
  obtain ⟨getFlag_none, setFlag_none, setCtl_none, input_none, output_none⟩ := access_of_emptyAt (s := s) empty
  obtain ⟨-, halted_setFlag, -⟩ := access_of_emptyAt (s := s.setRun false) empty
  obtain ⟨sfs, sfc⟩ := exec_flag_tests_refused (f := false) (.inl rfl) getFlag_none
  obtain ⟨mia, mib, lia, lib⟩ := exec_inputs_refused (f := f) input_none
  exact ⟨rfl, halted_setFlag false, setFlag_none true, setFlag_none false, sfc, sfs,
    fun allowed => (exec_flag_tests_refused (.inr allowed) getFlag_none).symm, mia, mib, lia, lib,
    outputReg_refused (r := .A) (output_none _), outputReg_refused (r := .B) (output_none _),
    writeControl_refused (setCtl_none true), writeControl_refused (setCtl_none false)⟩

/-! ## The DMA board -/

@[simp] theorem chan_setChan (b : DmaBoard) (n : DmaNumber) (c : DmaChannel) : (b.setChan n c).chan n = c := by
  cases n <;> rfl

@[simp] theorem setChan_setChan (b : DmaBoard) (n : DmaNumber) (c c' : DmaChannel) :
    (b.setChan n c).setChan n c' = b.setChan n c' := by cases n <;> rfl

@[simp] theorem setChan_chan (b : DmaBoard) (n : DmaNumber) : b.setChan n (b.chan n) = b := by cases n <;> rfl

/-- A change of one channel's registers in an installed board. -/
theorem updateDma_some {s : State} {b : DmaBoard} (hb : s.dma = some b) (sc : SelectCode) (n : DmaNumber)
    (g : DmaChannel → DmaChannel) : updateDma sc n s g = .next (s.setDma (some (b.setChan n (g (b.chan n))))) := by
  rw [updateDma, hb]

section
variable {sc : SelectCode} {n : DmaNumber} {s : State} {b : DmaBoard} {f : Bool} (hb : s.dma = some b)
include hb

/-- The flag clear of `f` on a DMA control channel, whose flag is the completion flag. -/
theorem clearIf_dmaControl (kind : channelKind sc = .dmaControl n) (f : Bool) :
    clearIf f sc s = .next (s.setDma (some (b.setChan n
      (if f then { b.chan n with complete := false } else b.chan n)))) := by
  cases f with
  | false =>
    rw [if_neg Bool.false_ne_true, setChan_chan, ← hb]
    rfl
  | true => rw [clearIf_true, setFlag, kind, if_pos rfl]; exact updateDma_some hb sc n _

/-- The flag clear of `f` on a DMA channel, whose flag is the abort bit. -/
theorem clearIf_dmaDevice (kind : channelKind sc = .dmaDevice n) (f : Bool) :
    clearIf f sc s = .next (s.setDma (some (b.setChan n
      (if f then { b.chan n with abort := false } else b.chan n)))) := by
  cases f with
  | false =>
    rw [if_neg Bool.false_ne_true, setChan_chan, ← hb]
    rfl
  | true => rw [clearIf_true, setFlag, kind, if_pos rfl]; exact updateDma_some hb sc n _

end

/-- The forms on a control channel, by its number. -/
theorem dmaControlForms_of_kind {sc : SelectCode} {n : DmaNumber} {s : State} {b : DmaBoard} (hb : s.dma = some b)
    (kind : channelKind sc = .dmaControl n) (f : Bool) :
    dmaControlForms sc s (b.chan n) (fun c => s.setDma (some (b.setChan n c))) f := by
  have flag : getFlag sc s = .next (b.chan n).complete := by rw [getFlag, kind, hb]; rfl
  have put_flag (v : Bool) : setFlag sc v s = .next (s.setDma (some (b.setChan n { b.chan n with complete := v }))) := by
    rw [setFlag, kind]; exact updateDma_some hb sc n _
  have put_ctl (v : Bool) : setCtl sc v s = .next (s.setDma (some (b.setChan n { b.chan n with selLength := v }))) := by
    rw [setCtl, kind]; exact updateDma_some hb sc n _
  have load (v : Word) : (b.chan n).load v =
      if (b.chan n).selLength then { b.chan n with length := v.setWidth 14 } else { b.chan n with addr := v } := by
    have low : v.extractLsb' 0 14 = v.setWidth 14 := by
      apply BitVec.eq_of_getLsbD_eq
      intro i hi
      simp [hi]
    rw [DmaChannel.load, low]
  have put_output (v : Word) : output sc v s = .next (s.setDma (some (b.setChan n ((b.chan n).load v)))) := by
    rw [output, kind]; exact updateDma_some hb sc n _
  have get_input : input sc s = .next ((b.chan n).length.setWidth 16) := by rw [input, kind, hb]; rfl
  have clear_after (c : DmaChannel) : clearIf f sc (s.setDma (some (b.setChan n c))) =
      .next (s.setDma (some (b.setChan n (if f then { c with complete := false } else c)))) := by
    rw [clearIf_dmaControl (b := b.setChan n c) rfl kind, chan_setChan, setChan_setChan]
    rfl
  obtain ⟨sfs, sfc⟩ := exec_flag_tests (f := false) (.inl rfl) flag rfl
  obtain ⟨mia, mib, lia, lib⟩ := exec_inputs (f := f) get_input
  have clear_reg (r : Reg) (v : Word) := clearIf_dmaControl (s := s.setReg r v) (b := b) (by simpa using hb) kind f
  refine ⟨put_flag true, put_flag false, sfs, sfc,
    fun allowed => exec_flag_tests (f := true) (.inr allowed) flag (put_flag false), ?_, ?_, ?_, ?_,
    lia.trans (clear_reg .A _), lib.trans (clear_reg .B _), mia.trans (clear_reg .A _), mib.trans (clear_reg .B _),
    clearIf_dmaControl (s := s.setRun false) hb kind f⟩
  · exact (writeControl_of_setCtl (put_ctl true)).trans (clear_after _)
  · exact (writeControl_of_setCtl (put_ctl false)).trans (clear_after _)
  · rw [exec_ota, outputReg_of_output (put_output _), load]; exact clear_after _
  · rw [exec_otb, outputReg_of_output (put_output _), load]; exact clear_after _

/-- The forms on a DMA channel, by its number. -/
theorem dmaDeviceForms_of_kind {sc : SelectCode} {n : DmaNumber} {s : State} {b : DmaBoard} (hb : s.dma = some b)
    (kind : channelKind sc = .dmaDevice n) (f : Bool) :
    dmaDeviceForms sc s (b.chan n) (fun c => s.setDma (some (b.setChan n c))) f := by
  have flag : getFlag sc s = .next (b.chan n).abort := by rw [getFlag, kind, hb]; rfl
  have put_flag (v : Bool) : setFlag sc v s = .next (s.setDma (some (b.setChan n { b.chan n with abort := v }))) := by
    rw [setFlag, kind]; exact updateDma_some hb sc n _
  have clear_start : setCtl sc false s = .next (s.setDma (some (b.setChan n { b.chan n with start := false }))) := by
    simp only [setCtl, kind, updateDma_some hb]
    rfl
  have put_output (v : Word) : output sc v s = .next (s.setDma (some (b.setChan n { b.chan n with devOpt := v }))) := by
    rw [output, kind]; exact updateDma_some hb sc n _
  have start : exec (.stc f sc) s = .refused (.dmaTransfer sc) := by
    rw [exec_stc, writeControl]
    simp only [setCtl, kind, updateDma_some hb]
    rfl
  have no_input : input sc s = noFunction sc := by rw [input, kind]
  have clear_after (c : DmaChannel) : clearIf f sc (s.setDma (some (b.setChan n c))) =
      .next (s.setDma (some (b.setChan n (if f then { c with abort := false } else c)))) := by
    rw [clearIf_dmaDevice (b := b.setChan n c) rfl kind, chan_setChan, setChan_setChan]
    rfl
  obtain ⟨sfs, sfc⟩ := exec_flag_tests (f := false) (.inl rfl) flag rfl
  obtain ⟨mia, mib, lia, lib⟩ := exec_inputs_refused (f := f) no_input
  exact ⟨put_flag true, put_flag false, sfs, sfc,
    fun allowed => exec_flag_tests (f := true) (.inr allowed) flag (put_flag false),
    (writeControl_of_setCtl clear_start).trans (clear_after _),
    (outputReg_of_output (r := .A) (put_output _)).trans (clear_after _),
    (outputReg_of_output (r := .B) (put_output _)).trans (clear_after _),
    clearIf_dmaDevice (s := s.setRun false) hb kind f, start, lia, lib, mia, mib⟩

/-- Settles O58: 02 and 06 are channel 1, 03 and 07 channel 2. -/
theorem dmaRegisterAccess : Obligations.DmaRegisterAccess := fun _ _ f hb =>
  ⟨dmaControlForms_of_kind (n := .one) hb rfl f, dmaControlForms_of_kind (n := .two) hb rfl f,
    dmaDeviceForms_of_kind (n := .one) hb rfl f, dmaDeviceForms_of_kind (n := .two) hb rfl f⟩

/-! ## The memory protect and parity boards -/

section
variable {s : State} {e : Word} {p : ProtectRegs} {q : ParityRegs}

/-- The flag function of 05 with both boards is the parity board's. -/
theorem setFlag_guard_both (hg : s.guard = some ⟨.both p q, e⟩) (v : Bool) :
    setFlag 5 v s = .next (s.setGuard (some ⟨.both p ⟨v⟩, e⟩)) := by
  simp only [setFlag, updateGuard, hg]
  rfl

theorem clearIf_guard_both (hg : s.guard = some ⟨.both p q, e⟩) (f : Bool) :
    clearIf f 5 s = .next (s.setGuard (some ⟨.both p ⟨q.enable && !f⟩, e⟩)) := by
  cases f with
  | false =>
    rw [Bool.not_false, Bool.and_true, ← hg]
    rfl
  | true => rw [clearIf_true, setFlag_guard_both hg, Bool.not_true, Bool.and_false]

/-- With the parity board alone too. -/
theorem setFlag_guard_parity (hg : s.guard = some ⟨.parity q, e⟩) (v : Bool) :
    setFlag 5 v s = .next (s.setGuard (some ⟨.parity ⟨v⟩, e⟩)) := by
  simp only [setFlag, updateGuard, hg]
  rfl

theorem clearIf_guard_parity (hg : s.guard = some ⟨.parity q, e⟩) (f : Bool) :
    clearIf f 5 s = .next (s.setGuard (some ⟨.parity ⟨q.enable && !f⟩, e⟩)) := by
  cases f with
  | false =>
    rw [Bool.not_false, Bool.and_true, ← hg]
    rfl
  | true => rw [clearIf_true, setFlag_guard_parity hg, Bool.not_true, Bool.and_false]

/-- With the protect board alone there is no flag on 05 (R34). -/
theorem setFlag_guard_protect (hg : s.guard = some ⟨.protect p, e⟩) (v : Bool) : setFlag 5 v s = noFunction 5 := by
  simp only [setFlag, updateGuard, hg]
  rfl

/-- The input register of 05 is there with either board. -/
theorem input_guard {g : GuardBoard} (hg : s.guard = some g) : input 5 s = .next g.error := by
  simp only [input, hg]
  rfl

/-- The forms with both boards. -/
theorem guardBothForms_of_guard (hg : s.guard = some ⟨.both p q, e⟩) (f : Bool) : guardBothForms s e p q f := by
  have flag : getFlag 5 s = .next q.enable := by simp only [getFlag, hg]; rfl
  have put_flag := setFlag_guard_both hg
  have put_ctl (v : Bool) : setCtl 5 v s = .next (s.setGuard (some ⟨.both { p with enable := v } q, e⟩)) := by
    simp only [setCtl, updateGuard, hg]; rfl
  have put_output (v : Word) : output 5 v s = .next (s.setGuard (some ⟨.both { p with upper := v } q, e⟩)) := by
    simp only [output, updateGuard, hg]; rfl
  have clear_after (p' : ProtectRegs) :=
    clearIf_guard_both (s := s.setGuard (some ⟨.both p' q, e⟩)) (p := p') rfl f
  have clear_reg (r : Reg) (v : Word) := clearIf_guard_both (s := s.setReg r v) (by simpa using hg) f
  obtain ⟨sfs, sfc⟩ := exec_flag_tests (f := false) (.inl rfl) flag rfl
  obtain ⟨mia, mib, lia, lib⟩ := exec_inputs (f := f) (input_guard hg)
  exact ⟨put_flag true, put_flag false, sfs, sfc,
    fun allowed => exec_flag_tests (f := true) (.inr allowed) flag (put_flag false),
    (writeControl_of_setCtl (put_ctl true)).trans (clear_after _),
    (writeControl_of_setCtl (put_ctl false)).trans (clear_after _),
    (outputReg_of_output (r := .A) (put_output _)).trans (clear_after _),
    (outputReg_of_output (r := .B) (put_output _)).trans (clear_after _),
    lia.trans (clear_reg .A _), lib.trans (clear_reg .B _), mia.trans (clear_reg .A _), mib.trans (clear_reg .B _),
    clearIf_guard_both (s := s.setRun false) hg f⟩

/-- The forms with the protect board alone: those of the flag, and the clear of `f`, are refused. -/
theorem guardProtectForms_of_guard (hg : s.guard = some ⟨.protect p, e⟩) : guardProtectForms s e p := by
  have no_flag : getFlag 5 s = noFunction 5 := by simp only [getFlag, hg]; rfl
  have no_set := setFlag_guard_protect hg
  have put_ctl (v : Bool) : setCtl 5 v s = .next (s.setGuard (some ⟨.protect { p with enable := v }, e⟩)) := by
    simp only [setCtl, updateGuard, hg]; rfl
  have put_output (v : Word) : output 5 v s = .next (s.setGuard (some ⟨.protect { p with upper := v }, e⟩)) := by
    simp only [output, updateGuard, hg]; rfl
  have no_clear_after (p' : ProtectRegs) :
      clearIf true 5 (s.setGuard (some ⟨.protect p', e⟩)) = .refused (.noChannelFunction 5) :=
    setFlag_guard_protect (s := s.setGuard (some ⟨.protect p', e⟩)) rfl false
  have no_clear_reg (r : Reg) (v : Word) : clearIf true 5 (s.setReg r v) = .refused (.noChannelFunction 5) :=
    setFlag_guard_protect (by simpa using hg) false
  obtain ⟨sfs, sfc⟩ := exec_flag_tests_refused (f := false) (.inl rfl) no_flag
  obtain ⟨mia, mib, lia, lib⟩ := exec_inputs (f := false) (input_guard hg)
  obtain ⟨mia', mib', lia', lib'⟩ := exec_inputs (f := true) (input_guard hg)
  refine ⟨writeControl_of_setCtl (put_ctl true), writeControl_of_setCtl (put_ctl false),
    outputReg_of_output (r := .A) (put_output _), outputReg_of_output (r := .B) (put_output _), lia, lib, mia, mib, rfl,
    fun allowed => exec_flag_tests_refused (.inr allowed) no_flag, fun i hi => ?_⟩
  rcases hi with rfl | rfl | rfl | rfl | rfl | rfl | rfl | rfl | rfl | rfl | rfl | rfl | rfl
  · exact no_set true
  · exact no_set false
  · exact sfs
  · exact sfc
  · exact (writeControl_of_setCtl (put_ctl true)).trans (no_clear_after _)
  · exact (writeControl_of_setCtl (put_ctl false)).trans (no_clear_after _)
  · exact (outputReg_of_output (r := .A) (put_output _)).trans (no_clear_after _)
  · exact (outputReg_of_output (r := .B) (put_output _)).trans (no_clear_after _)
  · exact lia'.trans (no_clear_reg .A _)
  · exact lib'.trans (no_clear_reg .B _)
  · exact mia'.trans (no_clear_reg .A _)
  · exact mib'.trans (no_clear_reg .B _)
  · exact setFlag_guard_protect (s := s.setRun false) hg false

/-- The forms with the parity board alone: those of the control bit and the output are refused. -/
theorem guardParityForms_of_guard (hg : s.guard = some ⟨.parity q, e⟩) (f : Bool) : guardParityForms s e q f := by
  have flag : getFlag 5 s = .next q.enable := by simp only [getFlag, hg]; rfl
  have put_flag := setFlag_guard_parity hg
  have no_ctl (v : Bool) : setCtl 5 v s = noFunction 5 := by simp only [setCtl, updateGuard, hg]; rfl
  have no_output (v : Word) : output 5 v s = noFunction 5 := by simp only [output, updateGuard, hg]; rfl
  have clear_reg (r : Reg) (v : Word) := clearIf_guard_parity (s := s.setReg r v) (by simpa using hg) f
  obtain ⟨sfs, sfc⟩ := exec_flag_tests (f := false) (.inl rfl) flag rfl
  obtain ⟨mia, mib, lia, lib⟩ := exec_inputs (f := f) (input_guard hg)
  refine ⟨put_flag true, put_flag false, sfs, sfc,
    fun allowed => exec_flag_tests (f := true) (.inr allowed) flag (put_flag false),
    lia.trans (clear_reg .A _), lib.trans (clear_reg .B _), mia.trans (clear_reg .A _), mib.trans (clear_reg .B _),
    clearIf_guard_parity (s := s.setRun false) hg f, fun i hi => ?_⟩
  rcases hi with rfl | rfl | rfl | rfl
  · exact writeControl_refused (no_ctl true)
  · exact writeControl_refused (no_ctl false)
  · exact outputReg_refused (r := .A) (no_output _)
  · exact outputReg_refused (r := .B) (no_output _)

end

/-- Settles O59, board by board. -/
theorem guardRegisterAccess : Obligations.GuardRegisterAccess := fun _ _ _ _ f =>
  ⟨fun hg => guardBothForms_of_guard hg f, guardProtectForms_of_guard, fun hg => guardParityForms_of_guard hg f⟩

/-! ## The release of a priority level -/

/-- The flag of the interface at `c` is clear, and no mark holds its level (R250). -/
def State.releasedAt (t : State) (c : SelectCode) : Prop :=
  ∃ d, t.iface c = some d ∧ d.flag = false ∧ d.ack = false

/-- Clearing the flag of an interface releases its level (D21). -/
theorem releasedAt_of_setFlag {s t : State} {c : SelectCode} (high : 8 ≤ c.toNat) (h : setFlag c false s = .next t) :
    t.releasedAt c := by
  rw [setFlag, channelKind_interface high] at h
  obtain ⟨d, -, rfl⟩ := updateIface_eq_next.mp h
  exact ⟨_, by rw [iface_setIface, if_pos rfl], by simp, by simp⟩

/-- Any flag test with `f` clears the flag it tested. -/
theorem releasedAt_of_flag_test {s t : State} {c : SelectCode} {want : Bool} (high : 8 ≤ c.toNat)
    (h : skipOnFlagListed want true c s = .next t) : t.releasedAt c := by
  obtain ⟨-, test⟩ := skipOnFlagListed_eq_next.mp h
  obtain ⟨v, u, -, clear, rfl⟩ := skipOnFlag_eq_next.mp test
  obtain ⟨d, hd, released⟩ := releasedAt_of_setFlag high clear
  exact ⟨d, by simpa using hd, released⟩

/-- Settles O11: every form with `f` ends in the flag clear; CLC clears the control bit and with it the mark. -/
theorem clearingReleasesLevel : Obligations.ClearingReleasesLevel := by
  refine ⟨fun s t c i high hi ht => ?_, fun s c d high hd => ?_, fun s f => ?_⟩
  · rcases hi with rfl | rfl | rfl | rfl | rfl | rfl | rfl | rfl | rfl | rfl | rfl | rfl
    · exact releasedAt_of_setFlag high ht
    · exact releasedAt_of_setFlag high ht
    · exact releasedAt_of_flag_test high ht
    · exact releasedAt_of_flag_test high ht
    · obtain ⟨_, -, clear⟩ := mergeInput_eq_next.mp ht; exact releasedAt_of_setFlag high clear
    · obtain ⟨_, -, clear⟩ := mergeInput_eq_next.mp ht; exact releasedAt_of_setFlag high clear
    · obtain ⟨_, -, clear⟩ := loadInput_eq_next.mp ht; exact releasedAt_of_setFlag high clear
    · obtain ⟨_, -, clear⟩ := loadInput_eq_next.mp ht; exact releasedAt_of_setFlag high clear
    · obtain ⟨_, -, clear⟩ := outputReg_eq_next.mp ht; exact releasedAt_of_setFlag high clear
    · obtain ⟨_, -, clear⟩ := outputReg_eq_next.mp ht; exact releasedAt_of_setFlag high clear
    · obtain ⟨_, -, clear⟩ := writeControl_eq_next.mp ht; exact releasedAt_of_setFlag high clear
    · obtain ⟨_, -, clear⟩ := writeControl_eq_next.mp ht; exact releasedAt_of_setFlag high clear
  · obtain ⟨-, -, clc, -⟩ := interfaceControl s c d high hd
    exact ⟨_, { d with ctl := false, ack := false }, clc, by rw [iface_setIface, if_pos rfl], rfl, rfl, rfl⟩
  · obtain ⟨t, clc, -, ifaces, -⟩ := clearAllControls s f
    exact ⟨t, clc, fun c d _ hd => ⟨{ d with ctl := false, ack := false }, by rw [ifaces, hd]; rfl, rfl, rfl, rfl⟩⟩

end Sys2Proof.Machine
end

section
/-! PROOFS. What each kind of state is written by: a word with permission for each field, and every instruction keeps
the fields it has no permission for. -/

namespace Sys2Proof.Machine

open Sys2Proof.Statement

/-! ## Permissions -/

/-- Which of the fields with few writers may change; `clearO` is the permission to clear O. -/
structure Permit where
  e : Prop
  o : Prop
  clearO : Prop
  run : Prop
  ien : Prop
  sreg : Prop
  mem : Prop

/-- From `s` to `t` only permitted fields change. -/
structure Keeps (P : Permit) (s t : State) : Prop where
  e : ¬ P.e → t.e = s.e
  o : ¬ P.o → t.o = s.o
  clearO : ¬ P.clearO → s.o = true → t.o = true
  run : ¬ P.run → t.run = s.run
  ien : ¬ P.ien → t.ien = s.ien
  sreg : ¬ P.sreg → t.sreg = s.sreg
  mem : ¬ P.mem → t.mem = s.mem

namespace Keeps

variable {P : Permit} {s t u : State}

/-- Updates of the other fields. -/
theorem of_same (e : t.e = s.e) (o : t.o = s.o) (run : t.run = s.run) (ien : t.ien = s.ien) (sreg : t.sreg = s.sreg)
    (mem : t.mem = s.mem) : Keeps P s t :=
  ⟨fun _ => e, fun _ => o, fun _ set => o.trans set, fun _ => run, fun _ => ien, fun _ => sreg, fun _ => mem⟩

theorem refl (s : State) : Keeps P s s := of_same rfl rfl rfl rfl rfl rfl

theorem trans (h : Keeps P s t) (h' : Keeps P t u) : Keeps P s u where
  e no := (h'.e no).trans (h.e no)
  o no := (h'.o no).trans (h.o no)
  clearO no set := h'.clearO no (h.clearO no set)
  run no := (h'.run no).trans (h.run no)
  ien no := (h'.ien no).trans (h.ien no)
  sreg no := (h'.sreg no).trans (h.sreg no)
  mem no := (h'.mem no).trans (h.mem no)

theorem setReg (r : Reg) (v : Word) : Keeps P s (s.setReg r v) :=
  of_same (by simp) (by simp) (by simp) (by simp) (by simp) (by simp)

theorem setP (p : Addr) : Keeps P s (s.setP p) := of_same rfl rfl rfl rfl rfl rfl

theorem skipIf (c : Bool) : Keeps P s (s.skipIf c) := skipIf_eq s c ▸ setP _

theorem setIface (c : SelectCode) (d : Interface) : Keeps P s (s.setIface c d) := of_same rfl rfl rfl rfl rfl rfl

/-- E may be written with permission, or with its own value. -/
theorem setE {v : Bool} (h : ¬ P.e → v = s.e) : Keeps P s (s.setE v) :=
  { (of_same rfl rfl rfl rfl rfl rfl : Keeps P s s) with e := h }

/-- O may be set with permission. -/
theorem setO {v : Bool} (h : ¬ P.o → v = s.o) (h' : ¬ P.clearO → s.o = true → v = true) : Keeps P s (s.setO v) :=
  { (of_same rfl rfl rfl rfl rfl rfl : Keeps P s s) with o := h, clearO := h' }

theorem boardStep (h : boardStep s t) : Keeps P s t := by
  rcases h with ⟨b, b', -, rfl⟩ | ⟨g, g', -, -, rfl⟩
  · exact of_same rfl rfl rfl rfl rfl rfl
  · exact of_same rfl rfl rfl rfl rfl rfl

/-! ## The shared operations -/

/-- The flag function writes O on 01 and IEN on 00. -/
theorem setFlag {sc : SelectCode} {v : Bool} (h : setFlag sc v s = .next t) (ho : sc = 1 → P.o)
    (hclear : sc = 1 → v = false → P.clearO) (hien : sc = 0 → P.ien) : Keeps P s t := by
  rcases setFlag_cases h with ⟨sc0, rfl⟩ | ⟨sc1, rfl⟩ | hb | ⟨-, d, -, rfl⟩
  · exact { refl s with ien := fun no => absurd (hien sc0) no }
  · refine setO (fun no => absurd (ho sc1) no) fun no _ => ?_
    cases v
    · exact absurd (hclear sc1 rfl) no
    · rfl
  · exact boardStep hb
  · exact setIface _ _

/-- The flag clear of `f`. -/
theorem clearIf {f : Bool} {sc : SelectCode} (h : clearIf f sc s = .next t) (ho : f = true ∧ sc = 1 → P.o)
    (hclear : f = true ∧ sc = 1 → P.clearO) (hien : f = true ∧ sc = 0 → P.ien) : Keeps P s t := by
  cases f with
  | false => cases h; exact refl s
  | true => exact setFlag h (fun sc1 => ho ⟨rfl, sc1⟩) (fun sc1 _ => hclear ⟨rfl, sc1⟩) fun sc0 => hien ⟨rfl, sc0⟩

theorem setCtl {sc : SelectCode} {v : Bool} (h : setCtl sc v s = .next t) : Keeps P s t := by
  rcases setCtl_cases h with ⟨-, rfl⟩ | ⟨-, rfl⟩ | hb | ⟨-, d, -, rfl⟩
  · split
    · exact refl _
    · exact of_same rfl rfl rfl rfl rfl rfl
  · exact refl _
  · exact boardStep hb
  · exact setIface _ _

/-- The output function writes S on 01. -/
theorem output {sc : SelectCode} {v : Word} (h : output sc v s = .next t) (hS : sc = 1 → P.sreg) : Keeps P s t := by
  rcases output_cases h with ⟨-, rfl⟩ | ⟨sc1, rfl⟩ | hb | ⟨-, d, -, rfl⟩
  · exact refl _
  · split
    · exact { refl s with sreg := fun no => absurd (hS sc1) no }
    · exact refl _
  · exact boardStep hb
  · exact setIface _ _

theorem memWrite {a : Addr} {v : Word} (h : memWrite s a v = .next t) (hmem : P.mem) : Keeps P s t := by
  rcases memWrite_cases h with ⟨-, rfl⟩ | ⟨-, rfl⟩ | ⟨-, -, -, rfl⟩
  · exact setReg _ _
  · exact setReg _ _
  · exact { refl s with mem := fun no => absurd hmem no }

/-- An addition writes E and O, and does not clear O (D10). -/
theorem addToReg (r : Reg) (v : Word) (he : P.e) (ho : P.o) : Keeps P s (addToReg r v s) :=
  (setReg r _).trans ((setE fun no => absurd he no).trans
    (setO (fun no => absurd ho no) fun _ set => by rw [Bool.or_eq_true]; exact .inl set))

end Keeps

/-! ## The operations of the instructions -/

/-- The shift-rotate words that may change E (R21): CLE, or a rotate-with-E code in either position. -/
def SrgWritesE (w : SrgWord) : Prop := w.cle = true ∨ w.s1.code.idle = false ∨ w.s2.code.idle = false

/-- A code that is no rotate with E leaves E. -/
theorem slotE_idle {c : ShiftCode} (h : c.idle = true) (t : Word) (e : Bool) : slotE c t e = e := by
  cases c <;> cases h <;> rfl

section
variable {P : Permit} {s t : State}

theorem runShiftRotate_keeps {w : SrgWord} (h : runShiftRotate w s = .next t) (he : SrgWritesE w → P.e) :
    Keeps P s t := by
  cases h
  refine ((Keeps.setReg _ _).trans (Keeps.setE fun no => ?_)).trans (Keeps.skipIf _)
  have keeps : ¬ SrgWritesE w := fun writes => no (he writes)
  simp only [SrgWritesE, not_or, Bool.not_eq_true, Bool.not_eq_false] at keeps
  obtain ⟨no_cle, idle1, idle2⟩ := keeps
  simp only [runSlot_eq, slotE_idle idle1, slotE_idle idle2, no_cle, State.setReg_e]
  rfl

theorem runAlterSkip_keeps {w : AsgWord} (h : runAlterSkip w s = .next t) (he : w.eop ≠ .none ∨ w.inc = true → P.e)
    (ho : w.inc = true → P.o) : Keeps P s t := by
  cases h
  have altered : Keeps P s ((s.setReg w.r (alterWord w.rop (s.reg w.r))).setE (alterBit w.eop s.e)) := by
    refine (Keeps.setReg _ _).trans (Keeps.setE fun no => ?_)
    have no_eop : w.eop = .none := by
      by_contra eop
      exact no (he (.inl eop))
    rw [no_eop, State.setReg_e]
    rfl
  refine Keeps.trans ?_ (Keeps.skipIf _)
  split
  · rename_i inc
    exact altered.trans (Keeps.addToReg _ _ (he (.inr inc)) (ho inc))
  · exact altered

section
variable {f : Bool} {sc : SelectCode} (ho : f = true ∧ sc = 1 → P.o) (hclear : f = true ∧ sc = 1 → P.clearO)
  (hien : f = true ∧ sc = 0 → P.ien)
include ho hclear hien

theorem skipOnFlag_keeps {want : Bool} (h : skipOnFlag want f sc s = .next t) : Keeps P s t := by
  obtain ⟨v, u, -, clear, rfl⟩ := skipOnFlag_eq_next.mp h
  exact (Keeps.clearIf clear ho hclear hien).trans (Keeps.skipIf _)

theorem skipOnFlagListed_keeps {want : Bool} (h : skipOnFlagListed want f sc s = .next t) : Keeps P s t :=
  skipOnFlag_keeps ho hclear hien (skipOnFlagListed_eq_next.mp h).2

theorem mergeInput_keeps {r : Reg} (h : mergeInput r f sc s = .next t) : Keeps P s t := by
  obtain ⟨v, -, clear⟩ := mergeInput_eq_next.mp h
  exact (Keeps.setReg _ _).trans (Keeps.clearIf clear ho hclear hien)

theorem loadInput_keeps {r : Reg} (h : loadInput r f sc s = .next t) : Keeps P s t := by
  obtain ⟨v, -, clear⟩ := loadInput_eq_next.mp h
  exact (Keeps.setReg _ _).trans (Keeps.clearIf clear ho hclear hien)

theorem outputReg_keeps {r : Reg} (hS : sc = 1 → P.sreg) (h : outputReg r f sc s = .next t) : Keeps P s t := by
  obtain ⟨u, out, clear⟩ := outputReg_eq_next.mp h
  exact (Keeps.output out hS).trans (Keeps.clearIf clear ho hclear hien)

theorem writeControl_keeps {v : Bool} (h : writeControl v f sc s = .next t) : Keeps P s t := by
  obtain ⟨u, control, clear⟩ := writeControl_eq_next.mp h
  exact (Keeps.setCtl control).trans (Keeps.clearIf clear ho hclear hien)

theorem halt_keeps (hrun : P.run) (h : halt f sc s = .next t) : Keeps P s t := by
  have stopped : Keeps P s (s.setRun false) := { Keeps.refl s with run := fun no => absurd hrun no }
  exact stopped.trans (Keeps.clearIf h ho hclear hien)

end

theorem loadMem_keeps {r : Reg} {x : MemRef} (h : loadMem r x s = .next t) : Keeps P s t := by
  obtain ⟨v, -, rfl⟩ := loadMem_eq_next.mp h
  exact Keeps.setReg _ _

theorem combineA_keeps {g : Word → Word → Word} {x : MemRef} (h : combineA g x s = .next t) : Keeps P s t := by
  obtain ⟨v, -, rfl⟩ := combineA_eq_next.mp h
  exact Keeps.setReg _ _

theorem compareMem_keeps {r : Reg} {x : MemRef} (h : compareMem r x s = .next t) : Keeps P s t := by
  obtain ⟨v, -, rfl⟩ := compareMem_eq_next.mp h
  exact Keeps.skipIf _

theorem jump_keeps {x : MemRef} (h : jump x s = .next t) : Keeps P s t := by
  obtain ⟨m, -, rfl⟩ := jump_eq_next.mp h
  exact Keeps.setP _

theorem addMem_keeps {r : Reg} {x : MemRef} (h : addMem r x s = .next t) (he : P.e) (ho : P.o) : Keeps P s t := by
  obtain ⟨v, -, rfl⟩ := addMem_eq_next.mp h
  exact Keeps.addToReg _ _ he ho

theorem storeMem_keeps {r : Reg} {x : MemRef} (h : storeMem r x s = .next t) (hmem : P.mem) : Keeps P s t := by
  obtain ⟨m, -, write⟩ := storeMem_eq_next.mp h
  exact Keeps.memWrite write hmem

theorem incrementSkip_keeps {x : MemRef} (h : incrementSkip x s = .next t) (hmem : P.mem) : Keeps P s t := by
  obtain ⟨m, v, u, -, -, write, rfl⟩ := incrementSkip_eq_next.mp h
  exact (Keeps.memWrite write hmem).trans (Keeps.skipIf _)

theorem jumpSubroutine_keeps {x : MemRef} (h : jumpSubroutine x s = .next t) (hmem : P.mem) : Keeps P s t := by
  obtain ⟨m, u, -, write, rfl⟩ := jumpSubroutine_eq_next.mp h
  exact (Keeps.memWrite write hmem).trans (Keeps.setP _)

end

/-! ## Every instruction -/

/-- The permissions of an instruction (R21, R22, R27, R30, R33, R36). A term no word decodes to may write E and O: R98
gives the flag instructions on 01 names of their own. -/
def permit (i : Instr) : Permit where
  e := i.wf = true → mayWriteE i
  o := i.wf = true → mayWriteO i
  clearO := i.wf = true → mayClearO i
  run := ∃ f sc, i = .hlt f sc
  ien := mayWriteIen i
  sreg := ∃ f, i = .ota f 1 ∨ i = .otb f 1
  mem := stores i

/-- A word that begins with a shift that does not write E has its permission from the rest of the word. -/
theorem tailWritesE_of_first {c : ShiftCode} (hc : c.idle = true) {r : Reg} {en cle sl : Bool} {s2 : Slot}
    (h : SrgWritesE ⟨r, ⟨en, c⟩, cle, sl, s2⟩) : tailWritesE cle s2 := by
  rcases h with clear | first | second
  · exact .inl clear
  · exact absurd (hc.symm.trans first) nofun
  · exact .inr (ShiftCode.eq_of_not_idle second)

/-- A word with only a second position that does not write E does not. -/
theorem not_srgWritesE {c1 c2 : ShiftCode} (h1 : c1.idle = true) (h2 : c2.idle = true) {r : Reg} {en1 en2 sl : Bool} :
    ¬ SrgWritesE ⟨r, ⟨en1, c1⟩, false, sl, ⟨en2, c2⟩⟩ := by
  simp [SrgWritesE, h1, h2]

/-- Every instruction keeps what it has no permission for. -/
theorem exec_keeps {i : Instr} {s t : State} (h : exec i s = .next t) : Keeps (permit i) s t := by
  cases i with
  | nop => exact runShiftRotate_keeps h fun writes => absurd writes (not_srgWritesE rfl rfl)
  | noEffectSrg r c1 c2 =>
    refine runShiftRotate_keeps h fun writes wf => ?_
    simp only [Instr.wf, Bool.and_eq_true] at wf
    obtain ⟨⟨h1, h2⟩, -⟩ := wf
    exact not_srgWritesE h1 h2 writes
  | cleSrg => exact runShiftRotate_keeps h fun _ _ => trivial
  | slaSrg | slbSrg => exact runShiftRotate_keeps h fun writes wf => tailWritesE_of_first wf writes
  | als1 | bls1 | ars1 | brs1 | ral1 | rbl1 | rar1 | rbr1 | alr1 | blr1 | alf1 | blf1 =>
    exact runShiftRotate_keeps h fun writes _ => tailWritesE_of_first rfl writes
  | als2 | bls2 | ars2 | brs2 | ral2 | rbl2 | rar2 | rbr2 | alr2 | blr2 | alf2 | blf2 =>
    exact runShiftRotate_keeps h fun writes wf => not_srgWritesE wf rfl writes
  | era1 | erb1 | ela1 | elb1 | era2 | erb2 | ela2 | elb2
  | eraDisabled1 | erbDisabled1 | elaDisabled1 | elbDisabled1 | eraDisabled2 | erbDisabled2 | elaDisabled2
  | elbDisabled2 => exact runShiftRotate_keeps h fun _ _ => trivial
  | noEffectAsg | sza | szb | rss => exact runAlterSkip_keeps h (by simp) (by simp)
  | cla | clb | cma | cmb | cca | ccb | sez => exact runAlterSkip_keeps h (fun writes _ => writes) fun inc _ => inc
  | cleAsg | cme | cce => exact runAlterSkip_keeps h (fun _ _ => trivial) fun inc _ => inc
  | ssa | ssb | slaAsg | slbAsg =>
    exact runAlterSkip_keeps h (fun writes _ => writes.resolve_left (absurd rfl)) fun inc _ => inc
  | ina | inb => exact runAlterSkip_keeps h (fun _ _ => trivial) fun _ _ => trivial
  | hlt f sc => exact halt_keeps (fun w _ => w) (fun w _ => w) (fun w => w) ⟨f, sc, rfl⟩ h
  | stf sc | clf sc =>
    exact Keeps.setFlag h (fun sc1 wf => absurd sc1 (notOverflow_iff.mp wf))
      (fun sc1 _ wf => absurd sc1 (notOverflow_iff.mp wf)) fun sc0 => sc0
  | sfc f sc | sfs f sc =>
    exact skipOnFlagListed_keeps (fun w wf => absurd w.2 (notOverflow_iff.mp wf))
      (fun w wf => absurd w.2 (notOverflow_iff.mp wf)) (fun w => w) h
  | mia | mib => exact mergeInput_keeps (fun w _ => w) (fun w _ => w) (fun w => w) h
  | lia | lib => exact loadInput_keeps (fun w _ => w) (fun w _ => w) (fun w => w) h
  | ota f sc =>
    exact outputReg_keeps (fun w _ => w) (fun w _ => w) (fun w => w) (fun sc1 => ⟨f, .inl (by rw [sc1])⟩) h
  | otb f sc =>
    exact outputReg_keeps (fun w _ => w) (fun w _ => w) (fun w => w) (fun sc1 => ⟨f, .inr (by rw [sc1])⟩) h
  | stc | clc => exact writeControl_keeps (fun w _ => w) (fun w _ => w) (fun w => w) h
  | sto => exact Keeps.setFlag (sc := 1) h (fun _ _ => trivial) (fun _ no => absurd no nofun) nofun
  | clo => exact Keeps.setFlag (sc := 1) h (fun _ _ => trivial) (fun _ _ _ => trivial) nofun
  | sos | soc => exact skipOnFlag_keeps (sc := 1) (fun w _ => w.1) (fun w _ => w.1) (fun w => absurd w.2 nofun) h
  | and | xor | ior => exact combineA_keeps h
  | lda | ldb => exact loadMem_keeps h
  | cpa | cpb => exact compareMem_keeps h
  | ada | adb => exact addMem_keeps h (fun _ => trivial) fun _ => trivial
  | sta | stb => exact storeMem_keeps h trivial
  | isz => exact incrementSkip_keeps h trivial
  | jsb => exact jumpSubroutine_keeps h trivial
  | jmp => exact jump_keeps h

/-- Settles O16: the permission for E. -/
theorem extendWriters : Obligations.ExtendWriters := fun _ _ _ wf h no =>
  (exec_keeps h).e fun may => no (may wf)

/-- Settles O17: the permissions to write O and to clear it. -/
theorem overflowWriters : Obligations.OverflowWriters := fun _ _ _ wf h =>
  ⟨fun no => (exec_keeps h).o fun may => no (may wf), fun no => (exec_keeps h).clearO fun may => no (may wf)⟩

/-- CIR, the fetch address, the parameters and the agenda are those of a given state. -/
def sameControl (s t : State) : Prop := t.cir = s.cir ∧ t.fa = s.fa ∧ t.cfg = s.cfg ∧ t.agenda = s.agenda

/-- No update of an instruction writes them. -/
theorem sameControl_keptByUpdates (s : State) : KeptByUpdates (sameControl s) where
  reg _ r _ h := by cases r <;> exact h
  e _ _ h := h
  o _ _ h := h
  p _ _ h := h
  halt _ h := h
  ien _ _ h := h
  sreg _ _ h := h
  mem _ _ _ _ _ _ h := h
  iface _ _ _ _ _ _ _ h := h
  clear _ h := h
  board _ _ hb h := by
    rcases hb with ⟨b, b', -, rfl⟩ | ⟨g, g', -, -, rfl⟩
    · exact h
    · exact h

/-- Settles O18: three permissions, and four fields that no update of an instruction writes. -/
theorem controlStateWriters : Obligations.ControlStateWriters := by
  intro i s t h
  have keeps := exec_keeps h
  refine ⟨fun no_hlt => keeps.run fun ⟨f, sc, hi⟩ => no_hlt f sc hi, keeps.ien, fun no_output => keeps.sreg ?_,
    (sameControl_keptByUpdates s).exec i ⟨rfl, rfl, rfl, rfl⟩ h⟩
  rintro ⟨f, hi | hi⟩
  · exact (no_output f).1 hi
  · exact (no_output f).2 hi

/-- Settles O19: the permission for memory. -/
theorem memoryWriters : Obligations.MemoryWriters := fun _ _ _ h no k =>
  congrArg (Memory.byteAt · k) ((exec_keeps h).mem no)

end Sys2Proof.Machine
end
